-- ==== Sys2Proof/Word.lean ====
section
/-! DEFINITION. The words of DHTCORE: the widths the spec names, and the three fixed sets of names it gives (line levels,
phases of the sequencer, result kinds). -/

namespace Sys2Proof

/-- A register of the datapath, `SHREG_W` bits (00_scope.md R6); that the width is the constant of that name is
`Config.word_has_shregW_bits`. -/
abbrev Word := BitVec 16

/-- One byte of the result buffer (20_memory.md R64). -/
abbrev Byte := BitVec 8

/-- The sequencer word `SEQ = PHASE ++ IDX` (30_encoding.md R97). -/
abbrev SeqWord := BitVec 11

/-- A level of the line: `LOW = 0`, `HIGH = 1` (00_scope.md R8). -/
inductive Level where
  | low
  | high
deriving DecidableEq, Repr, Inhabited

/-- The eight values of `PHASE`, in the order of their codes 0 to 7 (10_state.md R21). -/
inductive Phase where
  | idle
  | ratecheck
  | wake
  | release
  | ivlStart
  | poll
  | validate
  | done
deriving DecidableEq, Repr, Inhabited

/-- The four values of `STATUS`, in the order of their codes 0 to 3 (10_state.md R30). -/
inductive Status where
  | success
  | rateLimited
  | timeout
  | checksumError
deriving DecidableEq, Repr, Inhabited

end Sys2Proof
end

