-- ==== Sys2Proof/Config.lean ====
section
/-! DEFINITION. What is fixed for the machine (the constants of 00_scope.md R6), the instantiation parameters (00_scope.md R7),
what the environment supplies at a step (10_state.md R38), and the free values: constants without a body, so that no proof can
see which value they have. -/

namespace Sys2Proof

/-- The inputs of one step (00_scope.md R11, 10_state.md R38). -/
structure Inputs where
  /-- `rst`: this step is a reset (70_reset_and_hazards.md R240). -/
  rst : Bool
  /-- `start`: the host raises a command (30_encoding.md R90). -/
  start : Bool
  /-- `pin_id`: the operand of the command; only its low `PIN_W` bits are wires. -/
  pinId : Nat
  /-- `now`: the platform's clock in whole microseconds; only its low `TS_W` bits are wires (00_scope.md R10). -/
  now : Nat
  /-- `gpio_in`: the level of the selected line (20_memory.md R62). -/
  gpioIn : Level
deriving DecidableEq, Repr, Inhabited

/-- One item of what the environment does next (30_encoding.md R103): the inputs of one step, or, at the interval level, one
whole wire frame played to a block that stands at the start of its decode loop (30_encoding.md R94, log 13). -/
inductive Stimulus where
  | tick (i : Inputs)
  | frame (h t : Word) (c : Byte)
deriving DecidableEq, Repr

/-- The instantiation parameters that the step relation reads (00_scope.md R7). No step changes them. -/
structure Params where
  /-- `TS_W`: the width of `now`, `LAST_TS` and `T0`. -/
  tsW : Nat
  /-- `PIN_W`: the width of a pin identifier. -/
  pinW : Nat
  /-- `VALID_PIN`: the identifiers of the lines that can be switched between output and input. -/
  validPins : List Nat
  /-- `ENABLE`: the block exists. -/
  enable : Bool
deriving DecidableEq, Repr

/-- A value for every element whose reset value 10_state.md R43 leaves unspecified. -/
structure FreeRegs where
  idx : BitVec 8
  pin : Nat
  t0 : Nat
  age : BitVec 7
  shreg : Word
  rawHum : Word
  rawTemp : Word
  status : Status
  lastTs : Nat
  out : BitVec 40
deriving DecidableEq, Repr, Inhabited

namespace Config

/-- Minimum spacing of two accepted attempts, microseconds (00_scope.md R6). -/
def tMinInterval : Nat := 2000000

/-- Length of the wake-up low pulse, microseconds (00_scope.md R6). -/
def tWakeLow : Nat := 2000

/-- Wait after the release before sampling, microseconds (00_scope.md R6). -/
def tRelease : Nat := 25

/-- Longest admitted half-interval, microseconds (00_scope.md R6). -/
def tTimeout : Nat := 90

/-- Comparator threshold, microseconds (00_scope.md R6). -/
def tThresh : Nat := 30

/-- First half-interval index, −3 (00_scope.md R6). -/
def iFirst : BitVec 8 := 0xFD#8

/-- Last half-interval index (00_scope.md R6). -/
def iLast : BitVec 8 := 79#8

/-- Index after which `RAW_HUM` is taken (00_scope.md R6). -/
def iSnapHum : BitVec 8 := 31#8

/-- Index after which `RAW_TEMP` is taken and `SHREG` cleared (00_scope.md R6). -/
def iSnapTemp : BitVec 8 := 63#8

/-- Number of half-intervals of a frame (00_scope.md R6). -/
def nIntervals : Nat := 83

/-- `N_INTERVALS = I_LAST − I_FIRST + 1` (00_scope.md R6). -/
theorem nIntervals_eq : (nIntervals : Int) = iLast.toInt - iFirst.toInt + 1 := by decide

/-- Number of data bits of a frame (00_scope.md R6). -/
def nBits : Nat := 40

/-- The type of a frame taken as one number has this width. -/
theorem frame_has_nBits_bits : BitVec 40 = BitVec nBits := rfl

/-- `SHREG_W`: width of the shift register, of `RAW_HUM` and of `RAW_TEMP` (00_scope.md R6). -/
def shregW : Nat := 16

/-- The type of those three registers has this width, and no other. -/
theorem word_has_shregW_bits : Word = BitVec shregW := rfl

/-- Number of bytes of the result (00_scope.md R6). -/
abbrev nOut : Nat := 5

/-- FREE VALUE: the inputs of step number `n` where the script gives none (00_scope.md R11; log 1). -/
opaque oracle : Nat → Inputs

/-- FREE VALUE: what the elements without a reset value hold after a reset taken in step number `n` (10_state.md R43; log 6). -/
opaque freeRegs : Nat → FreeRegs

/-- FREE VALUE: from which the age of the last half-interval of a frame taken whole in step number `n` is drawn (log 13). -/
opaque freeAge : Nat → Nat

/-- FREE VALUE: the start time of the last half-interval of a frame taken whole in step number `n` (log 13). -/
opaque freeStart : Nat → Nat

end Config

end Sys2Proof
end

