-- ==== Sys2Proof/Syntax.lean ====
section
/-! DEFINITION. The rows of spec/opcode_table.json: the 25 operations of the sequencer in the order of 30_encoding.md R99, in
which several operations selected in one step are performed, and the wire frame of 30_encoding.md R94. -/

namespace Sys2Proof

/-- One row of the operation table. An operation has no operand in its word: it reads registers and inputs. -/
inductive Instr where
  /-- 40_transaction_driver.md R120 -/
  | idleWait
  /-- 40_transaction_driver.md R120; its operand is the input `pin_id` (30_encoding.md R90) -/
  | read
  /-- 40_transaction_driver.md R121 -/
  | rateReject
  /-- 40_transaction_driver.md R122 -/
  | stamp
  /-- 40_transaction_driver.md R123 -/
  | wakeBegin
  /-- 40_transaction_driver.md R124 -/
  | wakeHold
  /-- 40_transaction_driver.md R125 -/
  | lineRelease
  /-- 40_transaction_driver.md R126 -/
  | releaseWait
  /-- 40_transaction_driver.md R126 -/
  | loopEnter
  /-- 40_transaction_driver.md R127 -/
  | critEnter
  /-- 41_edge_timing_decoder.md R150 -/
  | ivlStart
  /-- 41_edge_timing_decoder.md R153 -/
  | timeoutAbort
  /-- 41_edge_timing_decoder.md R152 -/
  | pollWait
  /-- 41_edge_timing_decoder.md R154 -/
  | ivlEnd
  /-- 41_edge_timing_decoder.md R155 -/
  | classify
  /-- 41_edge_timing_decoder.md R156 -/
  | shiftIn
  /-- 41_edge_timing_decoder.md R158 -/
  | snapHum
  /-- 41_edge_timing_decoder.md R159 -/
  | snapTemp
  /-- 41_edge_timing_decoder.md R157 -/
  | idxAdvance
  /-- 41_edge_timing_decoder.md R160 -/
  | loopExit
  /-- 42_checksum_assembler.md R180 -/
  | csumCompute
  /-- 42_checksum_assembler.md R181 -/
  | csumReceived
  /-- 42_checksum_assembler.md R182 -/
  | csumFail
  /-- 42_checksum_assembler.md R183 -/
  | assemble
  /-- 40_transaction_driver.md R130 -/
  | complete
  /-- 30_encoding.md R94: the humidity, temperature and checksum fields of a wire frame -/
  | frame (h t : Word) (c : Byte)
deriving DecidableEq, Repr

end Sys2Proof
end

