-- ==== Sys2Proof/Decode.lean ====
section
/-! DEFINITION. The decoder: which rows of 30_encoding.md R99 a sequencer word selects, how a wire frame splits into its fields,
and the words that are refused, by name. After it, the encoder, from the same table. -/

namespace Sys2Proof

/-- The code of a phase (10_state.md R21). -/
def Phase.code : Phase → BitVec 3
  | .idle => 0
  | .ratecheck => 1
  | .wake => 2
  | .release => 3
  | .ivlStart => 4
  | .poll => 5
  | .validate => 6
  | .done => 7

/-- The phase of a code: all eight codes are used (30_encoding.md R98). -/
def Phase.ofCode (c : BitVec 3) : Phase :=
  if c = 0 then .idle
  else if c = 1 then .ratecheck
  else if c = 2 then .wake
  else if c = 3 then .release
  else if c = 4 then .ivlStart
  else if c = 5 then .poll
  else if c = 6 then .validate
  else .done

/-- The code of a result kind (10_state.md R30). -/
def Status.code : Status → BitVec 2
  | .success => 0
  | .rateLimited => 1
  | .timeout => 2
  | .checksumError => 3

/-- `SEQ = PHASE ++ IDX` (30_encoding.md R97). -/
def seqOf (p : Phase) (i : BitVec 8) : SeqWord := p.code ++ i

/-- `PHASE`, bits 10 to 8 of `SEQ` (30_encoding.md R97). -/
def seqPhase (w : SeqWord) : Phase := Phase.ofCode (w.extractLsb' 8 3)

/-- `IDX`, bits 7 to 0 of `SEQ` (30_encoding.md R97). -/
def seqIdx (w : SeqWord) : BitVec 8 := w.extractLsb' 0 8

/-- The `mask` column of 30_encoding.md R99. A frame is no row over `SEQ`; its entry is never used. -/
def Instr.mask : Instr → SeqWord
  | .idleWait | .read | .rateReject | .stamp | .wakeBegin | .wakeHold | .lineRelease => 0x700
  | .releaseWait | .loopEnter | .critEnter | .ivlStart => 0x700
  | .timeoutAbort | .pollWait | .ivlEnd | .idxAdvance => 0x700
  | .classify | .shiftIn => 0x781
  | .snapHum | .snapTemp | .loopExit => 0x7FF
  | .csumCompute | .csumReceived | .csumFail | .assemble | .complete => 0x700
  | .frame _ _ _ => 0x7FF

/-- The `match` column of 30_encoding.md R99; the rows of one index have that of the constant which names it (00_scope.md R6), which
is 0x51F for `I_SNAP_HUM`, 0x53F for `I_SNAP_TEMP` and 0x54F for `I_LAST`. A frame is no row over `SEQ`; its entry is never used. -/
def Instr.pattern : Instr → SeqWord
  | .idleWait | .read => 0x000
  | .rateReject | .stamp | .wakeBegin => 0x100
  | .wakeHold | .lineRelease => 0x200
  | .releaseWait | .loopEnter | .critEnter => 0x300
  | .ivlStart => 0x400
  | .timeoutAbort | .pollWait | .ivlEnd | .idxAdvance => 0x500
  | .classify | .shiftIn => 0x501
  | .snapHum => seqOf .poll Config.iSnapHum
  | .snapTemp => seqOf .poll Config.iSnapTemp
  | .loopExit => seqOf .poll Config.iLast
  | .csumCompute | .csumReceived | .csumFail | .assemble => 0x600
  | .complete => 0x700
  | .frame _ _ _ => 0x7FF

/-- The operations in the order of the rows of 30_encoding.md R99, the order in which those selected in one step are performed. -/
def operations : List Instr :=
  [.idleWait, .read, .rateReject, .stamp, .wakeBegin, .wakeHold, .lineRelease, .releaseWait, .loopEnter, .critEnter,
   .ivlStart, .timeoutAbort, .pollWait, .ivlEnd, .classify, .shiftIn, .snapHum, .snapTemp, .idxAdvance, .loopExit,
   .csumCompute, .csumReceived, .csumFail, .assemble, .complete]

/-- An operation matches a sequencer word: `(SEQ and mask) = match` (30_encoding.md R97). -/
def Instr.matchesSeq (i : Instr) (w : SeqWord) : Bool := (w &&& i.mask) == i.pattern

/-- The rows that a sequencer word selects before the conditions on the inputs are looked at (30_encoding.md R97, R99). -/
def rowsOf (w : SeqWord) : List Instr := operations.filter (fun i => i.matchesSeq w)

/-- The fields of a frame, first received bit at bit 39 (30_encoding.md R94, 20_memory.md R65). -/
def frameOf (w : BitVec 40) : Instr :=
  .frame (w.extractLsb' 24 16) (w.extractLsb' 8 16) (w.extractLsb' 0 8)

/-- Why a word is no word of the table. -/
inductive DecodeError where
  /-- a sequencer word has 11 bits (30_encoding.md R97): a bit above bit 10 is set -/
  | bitsAboveSeq
  /-- a frame has 40 bits (30_encoding.md R101): a bit above bit 39 is set -/
  | bitsAboveFrame
  /-- no word of the table is given in this many bits (log 24) -/
  | noSuchWidth
deriving DecidableEq, Repr

/-- The decoder: every row that a word of `nbits` bits selects. A frame is the one row of `N_BITS` bits (30_encoding.md
R101). A sequencer word has 11 bits and the spec gives it no container (R97): that it is also read from a number of 12 to 32 bits
whose bits above bit 10 are 0, and from no other number of bits, is the model's choice, DESIGN CHOICE (log 24). -/
def decode (nbits w : Nat) : Except DecodeError (List Instr) :=
  if nbits = Config.nBits then
    if w < 2 ^ Config.nBits then .ok [frameOf (BitVec.ofNat Config.nBits w)] else .error .bitsAboveFrame
  else if 11 ≤ nbits ∧ nbits ≤ 32 then
    if w < 2 ^ 11 then .ok (rowsOf (BitVec.ofNat 11 w)) else .error .bitsAboveSeq
  else .error .noSuchWidth

/-- For each word shared by several rows, the one that names the word where a single row is asked for: the row of the narrowest
mask, and among rows of one mask the one that carries the transaction on (log 12). -/
def leadingRows : List Instr :=
  [.snapHum, .snapTemp, .loopExit, .classify, .ivlEnd, .read, .stamp, .lineRelease, .loopEnter, .ivlStart, .csumCompute,
   .complete]

/-- The row that names a sequencer word (log 12). -/
def leadOf (w : SeqWord) : Option Instr := leadingRows.find? (fun i => i.matchesSeq w)

/-- The one instruction that names a word of the table, as the decoder reads it (log 12). -/
def decodeTableWord (nbits w : Nat) : Option Instr :=
  match decode nbits w with
  | .error _ => none
  | .ok [i] => some i
  | .ok _ => leadOf (BitVec.ofNat 11 w)

/-- A word with its number of bits. -/
structure Encoding where
  nbits : Nat
  word : Nat
deriving DecidableEq, Repr

/-- The encoder: for an operation the `match` word of its row with the don't-care bits zero (30_encoding.md R99), for a frame
its 40 bits, first received bit at bit 39 (30_encoding.md R94). -/
def encode : Instr → Encoding
  | .frame h t c => ⟨Config.nBits, (h ++ t ++ c).toNat⟩
  | i => ⟨11, i.pattern.toNat⟩

end Sys2Proof
end

