-- ==== Sys2Proof/Machine/State.lean ====
section
/-! DEFINITION. The state of the block (10_state.md R20) with the model's own fields, the ways a step can stop, and the state
after reset (10_state.md R43). -/

namespace Sys2Proof.Machine

/-- The block has no fault: "no illegal-operation, alignment, access or arithmetic fault" (60_exceptions.md R204). Its failures
are results held in `STATUS` (60_exceptions.md R200), so nothing raises a value of this type. -/
inductive Fault where
deriving DecidableEq, Repr

/-- The inputs to which the spec gives no meaning (00_scope.md R12, "refusal"). -/
inductive Refusal where
  /-- raised by an arm of `exec` whose instruction has no meaning yet (there is none); safe: the machine stops -/
  | notModelled (mnemonic : String)
  /-- raised by READ when `VALID_PIN(pin_id)` is false (93_implementation_defined.md U1); safe: the machine stops -/
  | invalidPin (pin : Nat)
  /-- raised by a step of an instance with `ENABLE = 0`: "the block is absent" (00_scope.md R7; log 16, DEDUCED); safe: the
  machine stops -/
  | blockAbsent
  /-- raised by a step that is given a whole frame while the block is not at the start of its decode loop: no rule of
  the spec says so, it is the model's choice (log 13, DESIGN CHOICE); safe: the machine stops -/
  | frameOutsideLoop
  /-- raised by a read or write of the result buffer at an index outside 0 to 4, which "names nothing; the model refuses it"
  (20_memory.md R64); safe: the access does not happen -/
  | noSuchByte (index : Nat)
  /-- raised by a read or write of the result buffer of a size other than one byte (00_scope.md R9); safe: the access does not
  happen -/
  | accessSize (n : Nat)
deriving DecidableEq, Repr

/-- The result buffer `OUT` (20_memory.md R64): its bytes that differ from what an unlisted byte reads as, by rising index. -/
abbrev Memory := List Host.Cell

/-- What an operation hands to later operations of the same step (41_edge_timing_decoder.md R161). All zero between steps: it
is no state of the block (10_state.md R20; log 3). -/
structure Wires where
  /-- `bit` of 41_edge_timing_decoder.md R155 -/
  bit : BitVec 1
  /-- `sum16` of 42_checksum_assembler.md R180 -/
  sum16 : Word
  /-- `expected` of 42_checksum_assembler.md R180 -/
  expected : Byte
  /-- `received` of 42_checksum_assembler.md R181 -/
  received : Byte
deriving DecidableEq, Repr

/-- The wires between steps. -/
def Wires.idle : Wires := ⟨0, 0, 0, 0⟩

/-- The fifteen elements of 10_state.md R20, then the model's own fields. -/
structure State where
  /-- `PHASE` (10_state.md R21) -/
  phase : Phase
  /-- `IDX` (10_state.md R22) -/
  idx : BitVec 8
  /-- `PIN` (10_state.md R24) -/
  pin : Nat
  /-- `T0` (10_state.md R25) -/
  t0 : Nat
  /-- `AGE` (10_state.md R26) -/
  age : BitVec 7
  /-- `SHREG` (10_state.md R27) -/
  shreg : Word
  /-- `RAW_HUM` (10_state.md R28) -/
  rawHum : Word
  /-- `RAW_TEMP` (10_state.md R29) -/
  rawTemp : Word
  /-- `STATUS` (10_state.md R30) -/
  status : Status
  /-- `LAST_TS` (10_state.md R31) -/
  lastTs : Nat
  /-- `LAST_VALID` (10_state.md R32) -/
  lastValid : Bool
  /-- `GPIO_DIR` (10_state.md R33) -/
  gpioDir : Bool
  /-- `GPIO_OUT` (10_state.md R34) -/
  gpioOut : Level
  /-- `CRIT` (10_state.md R35) -/
  crit : Bool
  /-- `OUT[0..4]` (10_state.md R36) -/
  out : Memory
  /-- the instantiation parameters, arguments of the model (10_state.md R40; log 4) -/
  params : Params
  /-- what operations of one step hand on (log 3) -/
  wires : Wires
  /-- what the environment does next, oldest first (10_state.md R38; log 1) -/
  script : List Stimulus
  /-- the number of steps taken, which indexes the free values (log 2) -/
  tick : Nat
deriving DecidableEq, Repr

/-- The parameters of the instance that `State.reset` describes: the spec's defaults for `TS_W`, `PIN_W` and `ENABLE`
(00_scope.md R7), and every identifier of `PIN_W` bits a valid one (log 4). -/
def Params.atReset : Params := ⟨64, 8, List.range 256, true⟩

/-- The state after reset (10_state.md R43). The spec gives `PHASE`, `LAST_VALID`, `GPIO_DIR`, `GPIO_OUT`, `CRIT`; the other
values are named in log 5 and log 7. -/
def State.reset : State where
  phase := .idle
  idx := 0
  pin := 0
  t0 := 0
  age := 0
  shreg := 0
  rawHum := 0
  rawTemp := 0
  status := .success
  lastTs := 0
  lastValid := false
  gpioDir := false
  gpioOut := .low
  crit := false
  out := []
  params := Params.atReset
  wires := Wires.idle
  script := []
  tick := 0

end Sys2Proof.Machine
end

