-- ==== Sys2Proof/Machine/Operands.lean ====
section
/-! DEFINITION. What an operation can read: the inputs of the step, elapsed times, the sequencer word, the wait level, byte
slices, and the ports (10_state.md R37), which are functions of the state. -/

namespace Sys2Proof.Machine

/-- The inputs of the coming step: the head of the script, or a free value (00_scope.md R11; log 1). -/
def State.inputs (s : State) : Inputs :=
  match s.script with
  | .tick i :: _ => i
  | _ => Config.oracle s.tick

/-- The input `rst` (70_reset_and_hazards.md R240). -/
def State.rst (s : State) : Bool := s.inputs.rst

/-- The input `start` (30_encoding.md R90). -/
def State.start (s : State) : Bool := s.inputs.start

/-- The input `pin_id`, `PIN_W` bits (30_encoding.md R90). -/
def State.pinId (s : State) : Nat := s.inputs.pinId % 2 ^ s.params.pinW

/-- The input `now`, `TS_W` bits: `ClockRead()` (20_memory.md R63). -/
def State.now (s : State) : Nat := s.inputs.now % 2 ^ s.params.tsW

/-- The input `gpio_in`: `LineLevel()` (20_memory.md R62). -/
def State.gpioIn (s : State) : Level := s.inputs.gpioIn

/-- `(now − t) mod 2^TS_W` (00_scope.md R10). -/
def elapsedAt (tsW t now : Nat) : Nat := (now + (2 ^ tsW - t % 2 ^ tsW)) % 2 ^ tsW

/-- `elapsed(t)`, at the `now` of the coming step (00_scope.md R10). -/
def State.elapsed (s : State) (t : Nat) : Nat := elapsedAt s.params.tsW t s.now

/-- `VALID_PIN(k)` (00_scope.md R7). -/
def State.validPin (s : State) (k : Nat) : Bool := s.params.validPins.contains k

/-- `SEQ` (30_encoding.md R97). -/
def State.seq (s : State) : SeqWord := seqOf s.phase s.idx

/-- `odd(i)`, bit 0 of the two's complement form (00_scope.md R8). -/
def oddIdx (i : BitVec 8) : Bool := i.getLsbD 0

/-- `i ≥ 0`, bit 7 clear (00_scope.md R8). -/
def nonNegIdx (i : BitVec 8) : Bool := !i.getLsbD 7

/-- The indices whose width is used: odd and not negative (30_encoding.md R92). -/
def usedIdx (i : BitVec 8) : Bool := oddIdx i && nonNegIdx i

/-- `wait_level(i)` (41_edge_timing_decoder.md R151). -/
def waitLevel (i : BitVec 8) : Level := if oddIdx i then .high else .low

/-- The other level of the line. -/
def otherLevel : Level → Level
  | .low => .high
  | .high => .low

/-- `v[15:8]` (00_scope.md R8). -/
def hiByte (v : Word) : Byte := v.extractLsb' 8 8

/-- `v[7:0]` (00_scope.md R8). -/
def loByte (v : Word) : Byte := v.extractLsb' 0 8

/-- The output ports (10_state.md R37, 60_exceptions.md R217). -/
structure Ports where
  busy : Bool
  done : Bool
  status : BitVec 2
  outBytes : BitVec 40
  gpioSel : Nat
  gpioDir : Bool
  gpioOut : Level
  crit : Bool
deriving DecidableEq, Repr

end Sys2Proof.Machine
end

