-- ==== Sys2Proof/Machine/Flags.lean ====
section
/-! DEFINITION. Every comparison the block makes (60_exceptions.md R216, 42_checksum_assembler.md R185), each written once: the
conditions of 30_encoding.md R99 and the checksum. -/

namespace Sys2Proof.Machine

/-- `soon` (40_transaction_driver.md R121). -/
def State.soon (s : State) : Bool := s.lastValid && decide (s.elapsed s.lastTs < Config.tMinInterval)

/-- `elapsed(T0) ≥ T_WAKE_LOW` (40_transaction_driver.md R125). -/
def State.wakeOver (s : State) : Bool := decide (Config.tWakeLow ≤ s.elapsed s.t0)

/-- `elapsed(T0) ≥ T_RELEASE` (40_transaction_driver.md R126). -/
def State.releaseOver (s : State) : Bool := decide (Config.tRelease ≤ s.elapsed s.t0)

/-- `elapsed(T0) > T_TIMEOUT` (41_edge_timing_decoder.md R153). -/
def State.tooLong (s : State) : Bool := decide (Config.tTimeout < s.elapsed s.t0)

/-- `gpio_in = wait_level(IDX)` (41_edge_timing_decoder.md R152). -/
def State.atWaitLevel (s : State) : Bool := decide (s.gpioIn = waitLevel s.idx)

/-- The half-interval ends in this poll (41_edge_timing_decoder.md R154). -/
def State.ends (s : State) : Bool := !s.tooLong && !s.atWaitLevel

/-- The threshold comparator: 1 if the width is above `T_THRESH` (41_edge_timing_decoder.md R155). -/
def bitOfAge (e : Nat) : BitVec 1 := if Config.tThresh < e then 1 else 0

/-- What a measured width means (30_encoding.md R93). -/
inductive Symbol where
  | bit (b : BitVec 1)
  | noInformation
  | timeout
deriving DecidableEq, Repr

/-- The bit-symbol code: `none` is a half-interval not seen to end in time (30_encoding.md R93). -/
def symbolOf (i : BitVec 8) (width : Option Nat) : Symbol :=
  match width with
  | none => .timeout
  | some a =>
    if Config.tTimeout < a then .timeout
    else if usedIdx i then .bit (bitOfAge a)
    else .noInformation

/-- `sum16` (42_checksum_assembler.md R180): ordinary 16-bit truncating addition. -/
def sum16Of (h t : Word) : Word := h + (h >>> 8) + t + (t >>> 8)

/-- The expected checksum, `sum16[7:0]` (42_checksum_assembler.md R180). -/
def expectedOf (h t : Word) : Byte := loByte (sum16Of h t)

/-- The received checksum, `SHREG[7:0]` (42_checksum_assembler.md R181). -/
def State.received (s : State) : Byte := loByte s.shreg

/-- `expected = received` (42_checksum_assembler.md R183). -/
def State.checksumAgrees (s : State) : Bool := decide (expectedOf s.rawHum s.rawTemp = s.received)

end Sys2Proof.Machine
end

