-- ==== Sys2Proof/Machine/Ops.lean ====
section
/-! DEFINITION. The named operations over the registers and the result buffer: one write per register, the buffer's reads and
writes, failure entry and return, reset, and the passage from one step to the next. -/

namespace Sys2Proof.Machine

/-- What a byte of `OUT` that is not listed reads as (log 7). -/
def Memory.unlisted : Byte := 0

/-- `OUT[a]` (00_scope.md R9). -/
def Memory.read : Memory → Nat → Byte
  | [], _ => Memory.unlisted
  | (k, v) :: r, a => if k = a then v else Memory.read r a

/-- The list with the byte at `a` replaced, kept in canonical form: rising indices, no unlisted value. -/
def Memory.write : Memory → Nat → Byte → Memory
  | [], a, v => if v = Memory.unlisted then [] else [(a, v)]
  | (k, u) :: r, a, v =>
    if a < k then (if v = Memory.unlisted then (k, u) :: r else (a, v) :: (k, u) :: r)
    else if a = k then (if v = Memory.unlisted then r else (a, v) :: r)
    else (k, u) :: Memory.write r a v

/-- The canonical form of the buffer: indices strictly rising and below `N_OUT`, no entry with the unlisted value. -/
def Memory.wf : Memory → Bool
  | [] => true
  | (k, v) :: r => decide (k < Config.nOut) && decide (v ≠ Memory.unlisted) && r.all (fun c => decide (k < c.1)) && Memory.wf r

/-- `PHASE <- p` (00_scope.md R9). -/
def State.setPhase (s : State) (p : Phase) : State := { s with phase := p }

/-- `IDX <- i` (00_scope.md R9). -/
def State.setIdx (s : State) (i : BitVec 8) : State := { s with idx := i }

/-- `PIN <- k` (10_state.md R24). -/
def State.setPin (s : State) (k : Nat) : State := { s with pin := k }

/-- `T0 <- t` (10_state.md R25). -/
def State.setT0 (s : State) (t : Nat) : State := { s with t0 := t }

/-- `AGE <- a` (10_state.md R26). -/
def State.setAge (s : State) (a : BitVec 7) : State := { s with age := a }

/-- `SHREG <- v` (10_state.md R27). -/
def State.setShreg (s : State) (v : Word) : State := { s with shreg := v }

/-- `RAW_HUM <- v` (10_state.md R28). -/
def State.setRawHum (s : State) (v : Word) : State := { s with rawHum := v }

/-- `RAW_TEMP <- v` (10_state.md R29). -/
def State.setRawTemp (s : State) (v : Word) : State := { s with rawTemp := v }

/-- `STATUS <- k` (10_state.md R30). -/
def State.setStatus (s : State) (k : Status) : State := { s with status := k }

/-- `LAST_TS <- t; LAST_VALID <- 1` (10_state.md R31, R32). -/
def State.setLast (s : State) (t : Nat) : State := { s with lastTs := t, lastValid := true }

/-- `LineSet(dir, level)` (20_memory.md R61): `none` leaves the level latch as it is. -/
def State.lineSet (s : State) (dir : Bool) (level : Option Level) : State :=
  { s with gpioDir := dir, gpioOut := level.getD s.gpioOut }

/-- `CRIT <- b` (10_state.md R35). -/
def State.setCrit (s : State) (b : Bool) : State := { s with crit := b }

/-- `OUT[k] <- v` (00_scope.md R9). -/
def State.setOut (s : State) (k : Fin Config.nOut) (v : Byte) : State := { s with out := s.out.write k.val v }

/-- Hands the classified bit to the operations that follow in the step (41_edge_timing_decoder.md R161). -/
def State.handBit (s : State) (b : BitVec 1) : State := { s with wires := { s.wires with bit := b } }

/-- Hands the sum and the expected checksum to the operations that follow in the step (42_checksum_assembler.md R180). -/
def State.handExpected (s : State) (sum16 : Word) (expected : Byte) : State :=
  { s with wires := { s.wires with sum16 := sum16, expected := expected } }

/-- Hands the received checksum to the operations that follow in the step (42_checksum_assembler.md R181). -/
def State.handReceived (s : State) (received : Byte) : State := { s with wires := { s.wires with received := received } }

/-- `MemRead(k, n)` (00_scope.md R9): the caller's read of one byte of the result. -/
def memRead (k n : Nat) (s : State) : Host.Outcome Byte Fault Refusal :=
  if n = 1 then if k < Config.nOut then .next (Memory.read s.out k) else .refused (.noSuchByte k)
  else .refused (.accessSize n)

/-- `MemWrite(k, n, v)` (00_scope.md R9). -/
def memWrite (k n : Nat) (v : Byte) (s : State) : Host.Outcome State Fault Refusal :=
  if n = 1 then if h : k < Config.nOut then .next (s.setOut ⟨k, h⟩ v) else .refused (.noSuchByte k)
  else .refused (.accessSize n)

/-- `out_bytes = OUT[0] ++ OUT[1] ++ OUT[2] ++ OUT[3] ++ OUT[4]` (10_state.md R37). -/
def outBytes (m : Memory) : BitVec 40 :=
  Memory.read m 0 ++ Memory.read m 1 ++ Memory.read m 2 ++ Memory.read m 3 ++ Memory.read m 4

/-- `busy = (PHASE ≠ IDLE)` (10_state.md R37). -/
def State.busy (s : State) : Bool := decide (s.phase ≠ .idle)

/-- `done = (PHASE = DONE)` (10_state.md R37). -/
def State.isDone (s : State) : Bool := decide (s.phase = .done)

/-- The output ports, all functions of the state (10_state.md R37). -/
def State.ports (s : State) : Ports where
  busy := s.busy
  done := s.isDone
  status := s.status.code
  outBytes := outBytes s.out
  gpioSel := s.pin
  gpioDir := s.gpioDir
  gpioOut := s.gpioOut
  crit := s.crit

/-- Failure entry, `raise <Failure>`: `STATUS <- code; CRIT <- 0; PHASE <- DONE`, and nothing else (60_exceptions.md R207;
log 10). -/
def State.raiseFailure (s : State) (k : Status) : State := ((s.setStatus k).setCrit false).setPhase .done

/-- Return: the step after `DONE` is `IDLE`; nothing is restored because nothing was saved (60_exceptions.md R208). -/
def State.returnToIdle (s : State) : State := s.setPhase .idle

/-- The five bytes of a 40-bit number, first byte at index 0, as a buffer in canonical form (20_memory.md R65). -/
def Memory.ofBytes (w : BitVec 40) : Memory :=
  ((((Memory.write [] 0 (w.extractLsb' 32 8)).write 1 (w.extractLsb' 24 8)).write 2 (w.extractLsb' 16 8)).write 3
    (w.extractLsb' 8 8)).write 4 (w.extractLsb' 0 8)

/-- A step with `rst = 1` (70_reset_and_hazards.md R240): the elements of 10_state.md R43 take their reset values, whatever the
state was; the others, which that rule leaves unspecified, take free values (log 6). -/
def State.applyReset (s : State) : State :=
  { s with
    phase := .idle
    lastValid := false
    gpioDir := false
    gpioOut := .low
    crit := false
    idx := (Config.freeRegs s.tick).idx
    pin := (Config.freeRegs s.tick).pin % 2 ^ s.params.pinW
    t0 := (Config.freeRegs s.tick).t0 % 2 ^ s.params.tsW
    age := (Config.freeRegs s.tick).age
    shreg := (Config.freeRegs s.tick).shreg
    rawHum := (Config.freeRegs s.tick).rawHum
    rawTemp := (Config.freeRegs s.tick).rawTemp
    status := (Config.freeRegs s.tick).status
    lastTs := (Config.freeRegs s.tick).lastTs % 2 ^ s.params.tsW
    out := Memory.ofBytes (Config.freeRegs s.tick).out }

/-- The end of a step: its stimulus is used up, its free values are spent, and no wire keeps a value (log 1, log 2, log 3). -/
def State.advance (s : State) : State :=
  { s with script := s.script.tail, tick := s.tick + 1, wires := Wires.idle }

end Sys2Proof.Machine
end

