-- ==== Sys2Proof/Machine/Driver.lean ====
section
/-! DEFINITION. The operations of the transaction driver (40_transaction_driver.md). An operation is the writes of its rule; the
condition under which a step performs it is in Fetch.lean (30_encoding.md R99; log 11). -/

namespace Sys2Proof.Machine

/-- IDLE_WAIT: nothing is written (40_transaction_driver.md R120). -/
def execIdleWait (s : State) : Host.Outcome State Fault Refusal := .next s

/-- READ: latch the pin, go to the rate check; refused where `VALID_PIN(pin_id)` is false (40_transaction_driver.md R120). -/
def execRead (s : State) : Host.Outcome State Fault Refusal :=
  if s.validPin s.pinId then .next ((s.setPin s.pinId).setPhase .ratecheck) else .refused (.invalidPin s.pinId)

/-- RATE_REJECT: the failure `RATE_LIMITED` (40_transaction_driver.md R121). -/
def execRateReject (s : State) : Host.Outcome State Fault Refusal := .next (s.raiseFailure .rateLimited)

/-- STAMP: record the time of the accepted attempt (40_transaction_driver.md R122). -/
def execStamp (s : State) : Host.Outcome State Fault Refusal := .next (s.setLast s.now)

/-- WAKE_BEGIN: drive the line low and start the pulse (40_transaction_driver.md R123). -/
def execWakeBegin (s : State) : Host.Outcome State Fault Refusal :=
  .next (((s.lineSet true (some .low)).setT0 s.now).setPhase .wake)

/-- WAKE_HOLD: nothing is written (40_transaction_driver.md R124). -/
def execWakeHold (s : State) : Host.Outcome State Fault Refusal := .next s

/-- LINE_RELEASE: let the line go and start the release wait (40_transaction_driver.md R125). -/
def execLineRelease (s : State) : Host.Outcome State Fault Refusal :=
  .next (((s.lineSet false none).setT0 s.now).setPhase .release)

/-- RELEASE_WAIT: nothing is written (40_transaction_driver.md R126). -/
def execReleaseWait (s : State) : Host.Outcome State Fault Refusal := .next s

/-- LOOP_ENTER: start the loop at index −3 (40_transaction_driver.md R126). -/
def execLoopEnter (s : State) : Host.Outcome State Fault Refusal :=
  .next ((s.setIdx Config.iFirst).setPhase .ivlStart)

/-- CRIT_ENTER: ask for the critical section and clear the accumulator (40_transaction_driver.md R127). -/
def execCritEnter (s : State) : Host.Outcome State Fault Refusal := .next ((s.setCrit true).setShreg 0)

/-- COMPLETE: back to `IDLE`; `STATUS` and `OUT` keep their values (40_transaction_driver.md R130). -/
def execComplete (s : State) : Host.Outcome State Fault Refusal := .next s.returnToIdle

end Sys2Proof.Machine
end

