-- ==== Sys2Proof/Machine/EdgeDecoder.lean ====
section
/-! DEFINITION. The operations of the edge-timing decoder (41_edge_timing_decoder.md). -/

namespace Sys2Proof.Machine

/-- IVL_START: record the start time of the half-interval (41_edge_timing_decoder.md R150). -/
def execIvlStart (s : State) : Host.Outcome State Fault Refusal := .next ((s.setT0 s.now).setPhase .poll)

/-- TIMEOUT_ABORT: the failure `TIMEOUT`, with CRIT_EXIT (41_edge_timing_decoder.md R153). -/
def execTimeoutAbort (s : State) : Host.Outcome State Fault Refusal := .next (s.raiseFailure .timeout)

/-- POLL_WAIT: nothing is written (41_edge_timing_decoder.md R152). -/
def execPollWait (s : State) : Host.Outcome State Fault Refusal := .next s

/-- IVL_END: the measured width goes to `AGE` (41_edge_timing_decoder.md R154). -/
def execIvlEnd (s : State) : Host.Outcome State Fault Refusal := .next (s.setAge (BitVec.ofNat 7 (s.elapsed s.t0)))

/-- CLASSIFY: compare the width with the threshold (41_edge_timing_decoder.md R155). -/
def execClassify (s : State) : Host.Outcome State Fault Refusal := .next (s.handBit (bitOfAge (s.elapsed s.t0)))

/-- SHIFT_IN: `SHREG <- SHREG[14:0] ++ bit` (41_edge_timing_decoder.md R156). -/
def execShiftIn (s : State) : Host.Outcome State Fault Refusal :=
  .next (s.setShreg (s.shreg.extractLsb' 0 15 ++ s.wires.bit))

/-- SNAP_HUM: the accumulator, which SHIFT_IN has just written, is the humidity (41_edge_timing_decoder.md R158). -/
def execSnapHum (s : State) : Host.Outcome State Fault Refusal := .next (s.setRawHum s.shreg)

/-- SNAP_TEMP: the accumulator is the temperature, and is cleared (41_edge_timing_decoder.md R159). -/
def execSnapTemp (s : State) : Host.Outcome State Fault Refusal := .next ((s.setRawTemp s.shreg).setShreg 0)

/-- IDX_ADVANCE: go to the next half-interval (41_edge_timing_decoder.md R157). -/
def execIdxAdvance (s : State) : Host.Outcome State Fault Refusal :=
  .next ((s.setIdx (s.idx + 1)).setPhase .ivlStart)

/-- LOOP_EXIT: leave the critical section and validate; `IDX` is not written (41_edge_timing_decoder.md R160). -/
def execLoopExit (s : State) : Host.Outcome State Fault Refusal := .next ((s.setCrit false).setPhase .validate)

end Sys2Proof.Machine
end

