-- ==== Sys2Proof/Machine/Validator.lean ====
section
/-! DEFINITION. The operations of the checksum validator and byte assembler (42_checksum_assembler.md). -/

namespace Sys2Proof.Machine

/-- CSUM_COMPUTE: the expected checksum (42_checksum_assembler.md R180). -/
def execCsumCompute (s : State) : Host.Outcome State Fault Refusal :=
  .next (s.handExpected (sum16Of s.rawHum s.rawTemp) (expectedOf s.rawHum s.rawTemp))

/-- CSUM_RECEIVED: the received checksum (42_checksum_assembler.md R181). -/
def execCsumReceived (s : State) : Host.Outcome State Fault Refusal := .next (s.handReceived s.received)

/-- CSUM_FAIL: the failure `CHECKSUM_ERROR`; `OUT` is not written (42_checksum_assembler.md R182). -/
def execCsumFail (s : State) : Host.Outcome State Fault Refusal := .next (s.raiseFailure .checksumError)

/-- ASSEMBLE: the five bytes, `SUCCESS` and `DONE`, in one step (42_checksum_assembler.md R183). -/
def execAssemble (s : State) : Host.Outcome State Fault Refusal :=
  .next ((((((((s.setOut 0 (hiByte s.rawHum)).setOut 1 (loByte s.rawHum)).setOut 2 (hiByte s.rawTemp)).setOut 3
    (loByte s.rawTemp)).setOut 4 s.wires.received).setStatus .success)).setPhase .done)

end Sys2Proof.Machine
end

