-- ==== Sys2Proof/Machine/WireFrame.lean ====
section
/-! DEFINITION. The wire frame taken whole: what the decode loop leaves when all 83 half-intervals of a frame have ended in time
(30_encoding.md R94, R95, 41_edge_timing_decoder.md R162). -/

namespace Sys2Proof.Machine

/-- An age of the last half-interval that classifies as the last bit of the frame, otherwise free: 0 to 30 for a 0, 31 to 90
for a 1 (30_encoding.md R93; log 13). -/
def lastAge (c : Byte) (free : Nat) : BitVec 7 :=
  if c.getLsbD 0 then BitVec.ofNat 7 (Config.tThresh + 1 + free % (Config.tTimeout - Config.tThresh))
  else BitVec.ofNat 7 (free % (Config.tThresh + 1))

/-- FRAME: the fields land in `RAW_HUM`, `RAW_TEMP` and `SHREG[7:0]` (30_encoding.md R94), and the loop is left as LOOP_EXIT
leaves it, with `IDX` at 79 (41_edge_timing_decoder.md R160). The width and the start time of the last half-interval are free
values (log 13). -/
def execFrame (h t : Word) (c : Byte) (s : State) : Host.Outcome State Fault Refusal :=
  .next (((((((((s.setRawHum h).setRawTemp t).setShreg (c.setWidth Config.shregW)).setIdx Config.iLast).setAge
    (lastAge c (Config.freeAge s.tick))).setT0 (Config.freeStart s.tick % 2 ^ s.params.tsW))).setCrit false).setPhase .validate)

end Sys2Proof.Machine
end

