-- ==== Sys2Proof/Machine/Dispatch.lean ====
section
/-! DEFINITION. The dispatch: one arm per row of spec/opcode_table.json. -/

namespace Sys2Proof.Machine

def exec (i : Instr) (s : State) : Host.Outcome State Fault Refusal :=
  match i with
  | .idleWait => Sys2Proof.Machine.execIdleWait s
  | .read => Sys2Proof.Machine.execRead s
  | .rateReject => Sys2Proof.Machine.execRateReject s
  | .stamp => Sys2Proof.Machine.execStamp s
  | .wakeBegin => Sys2Proof.Machine.execWakeBegin s
  | .wakeHold => Sys2Proof.Machine.execWakeHold s
  | .lineRelease => Sys2Proof.Machine.execLineRelease s
  | .releaseWait => Sys2Proof.Machine.execReleaseWait s
  | .loopEnter => Sys2Proof.Machine.execLoopEnter s
  | .critEnter => Sys2Proof.Machine.execCritEnter s
  | .ivlStart => Sys2Proof.Machine.execIvlStart s
  | .timeoutAbort => Sys2Proof.Machine.execTimeoutAbort s
  | .pollWait => Sys2Proof.Machine.execPollWait s
  | .ivlEnd => Sys2Proof.Machine.execIvlEnd s
  | .classify => Sys2Proof.Machine.execClassify s
  | .shiftIn => Sys2Proof.Machine.execShiftIn s
  | .snapHum => Sys2Proof.Machine.execSnapHum s
  | .snapTemp => Sys2Proof.Machine.execSnapTemp s
  | .idxAdvance => Sys2Proof.Machine.execIdxAdvance s
  | .loopExit => Sys2Proof.Machine.execLoopExit s
  | .csumCompute => Sys2Proof.Machine.execCsumCompute s
  | .csumReceived => Sys2Proof.Machine.execCsumReceived s
  | .csumFail => Sys2Proof.Machine.execCsumFail s
  | .assemble => Sys2Proof.Machine.execAssemble s
  | .complete => Sys2Proof.Machine.execComplete s
  | .frame h t c => Sys2Proof.Machine.execFrame h t c s

end Sys2Proof.Machine
end

