-- ==== Sys2Proof/Machine/Fetch.lean ====
section
/-! DEFINITION. Which operations a step performs: the rows of 30_encoding.md R99 that match `SEQ` and whose condition on the
inputs holds, and how a word of the table is put where the next step fetches. -/

namespace Sys2Proof.Machine

/-- The column "condition on inputs" of 30_encoding.md R99. A frame is no operation of a step: it is fetched from the script. -/
def condition (i : Instr) (s : State) : Bool :=
  match i with
  | .idleWait => !s.start
  | .read => s.start && s.validPin s.pinId
  | .rateReject => s.soon
  | .stamp | .wakeBegin => !s.soon
  | .wakeHold => !s.wakeOver
  | .lineRelease => s.wakeOver
  | .releaseWait => !s.releaseOver
  | .loopEnter | .critEnter => s.releaseOver
  | .ivlStart => true
  | .timeoutAbort => s.tooLong
  | .pollWait => !s.tooLong && s.atWaitLevel
  | .ivlEnd | .classify | .shiftIn | .snapHum | .snapTemp | .loopExit => s.ends
  | .idxAdvance => s.ends && decide (s.idx ≠ Config.iLast)
  | .csumCompute | .csumReceived => true
  | .csumFail => !s.checksumAgrees
  | .assemble => s.checksumAgrees
  | .complete => true
  | .frame _ _ _ => false

/-- The operations of a step, in the order in which they are performed (30_encoding.md R99). All conditions are those of the
state at the start of the step (00_scope.md R9). -/
def selected (s : State) : List Instr := (rowsOf s.seq).filter (fun i => condition i s)

/-- The coming step takes the inputs of one step, not a whole frame (log 13, DESIGN CHOICE). -/
def State.takesInputs (s : State) : Bool :=
  match s.script with
  | .frame _ _ _ :: _ => false
  | _ => true

/-- The coming step is one of the rules of files 40, 41 and 42: the block exists, the step has inputs, and `rst` is 0. -/
def State.ordinary (s : State) : Bool := s.params.enable && s.takesInputs && !s.rst

/-- The block stands at the start of its decode loop, where a whole frame can be played to it (40_transaction_driver.md R126;
log 13). -/
def State.atLoopStart (s : State) : Bool := decide (s.phase = .ivlStart) && decide (s.idx = Config.iFirst)

/-- The inputs under which the row that names a word is selected (log 12): the first valid pin with `start` for READ, a clock
that has just reached the end of a wait, a line that has just left the wait level. -/
def inputsFor (s : State) (w : SeqWord) : Inputs where
  rst := false
  start := true
  pinId := s.params.validPins.headD 0
  now :=
    match seqPhase w with
    | .wake => s.t0 + Config.tWakeLow
    | .release => s.t0 + Config.tRelease
    | _ => s.t0
  gpioIn := otherLevel (waitLevel (seqIdx w))

/-- A sequencer word placed in `SEQ`, with the inputs that select its row next in the script (log 12, log 14). -/
def State.placeSeq (s : State) (w : SeqWord) : State :=
  { s with phase := seqPhase w, idx := seqIdx w, script := .tick (inputsFor s w) :: s.script }

/-- A frame next in the script, with the block at the start of its decode loop (log 13, log 14). -/
def State.placeFrame (s : State) (w : BitVec 40) : State :=
  { s with
    phase := .ivlStart
    idx := Config.iFirst
    script := .frame (w.extractLsb' 24 16) (w.extractLsb' 8 16) (w.extractLsb' 0 8) :: s.script }

/-- The word of a row of the table placed where the next step fetches it: of a frame its `N_BITS` bits, of any other number of bits
the low 11 as a sequencer word (log 24). -/
def State.placeWord (s : State) (nbits w : Nat) : State :=
  if nbits = Config.nBits then s.placeFrame (BitVec.ofNat Config.nBits w) else s.placeSeq (BitVec.ofNat 11 w)

end Sys2Proof.Machine
end

