-- ==== Sys2Proof/Machine/Sequence.lean ====
section
/-! DEFINITION. One step of the block: reset, or the selected operations one after another, or a whole frame, and then the
passage to the next step. -/

namespace Sys2Proof.Machine

/-- Operations performed one after another in one step (30_encoding.md R99; log 11). -/
def runOps : List Instr → State → Host.Outcome State Fault Refusal
  | [], s => .next s
  | i :: is, s =>
    match exec i s with
    | .next t => runOps is t
    | .fault r => .fault r
    | .refused r => .refused r

/-- The end of a step that has reached a next state. -/
def finish : Host.Outcome State Fault Refusal → Host.Outcome State Fault Refusal
  | .next t => .next t.advance
  | .fault r => .fault r
  | .refused r => .refused r

/-- A step with the inputs of one step: `rst` beats every other input (70_reset_and_hazards.md R240); otherwise the selected
operations are performed. No row is selected exactly when `IDLE` sees `start` with an invalid pin, which has no meaning
(30_encoding.md R100). -/
def stepInputs (s : State) : Host.Outcome State Fault Refusal :=
  if s.rst then .next s.applyReset.advance
  else
    match selected s with
    | [] => .refused (.invalidPin s.pinId)
    | ops => finish (runOps ops s)

/-- A step in which the script plays a whole frame: performed at the start of the loop, refused elsewhere, both the model's choice
(log 13, DESIGN CHOICE). -/
def stepFrame (h t : Word) (c : Byte) (s : State) : Host.Outcome State Fault Refusal :=
  if s.atLoopStart then finish (exec (.frame h t c) s) else .refused .frameOutsideLoop

/-- One step of the block (00_scope.md R11). With `ENABLE = 0` no rule applies (00_scope.md R7; log 16). -/
def blockStep (s : State) : Host.Outcome State Fault Refusal :=
  if s.params.enable then
    match s.script with
    | .frame h t c :: _ => stepFrame h t c s
    | _ => stepInputs s
  else .refused .blockAbsent

end Sys2Proof.Machine
end

