-- ==== Sys2Proof/Machine/Interval.lean ====
section
/-! DEFINITION. The interval level: what a half-interval comes to, the decode loop and the validation as functions of it
(41_edge_timing_decoder.md R162, 42_checksum_assembler.md R186), a transaction as a function (40_transaction_driver.md R132), the
steps that a half-interval is made of (30_encoding.md R103), and what the bytes mean to a caller (42_checksum_assembler.md R188). -/

namespace Sys2Proof.Machine

/-- The outcome `o_i` of a half-interval (41_edge_timing_decoder.md R162). -/
inductive HalfOutcome where
  /-- `End(a)` -/
  | ended (a : Nat)
  /-- `Never` -/
  | never
deriving DecidableEq, Repr

/-- `Bits(RAW_HUM, RAW_TEMP, CS)` (41_edge_timing_decoder.md R162). -/
structure Bits where
  hum : Nat
  temp : Nat
  checksum : Nat
deriving DecidableEq, Repr

/-- `b_k`: 1 if the width at index `2k + 1` is above `T_THRESH`; the list starts at index −3 (41_edge_timing_decoder.md R162).
A width that the list does not hold counts as 0: the model's choice, DESIGN CHOICE (log 23). -/
def dataBit (o : List HalfOutcome) (k : Nat) : Nat :=
  match o[2 * k + 4]? with
  | some (.ended a) => if Config.tThresh < a then 1 else 0
  | _ => 0

/-- `Σ_{k = first .. first + n − 1} b_k × 2^(first + n − 1 − k)` (30_encoding.md R95). -/
def fieldOf (b : Nat → Nat) (first n : Nat) : Nat :=
  ((List.range n).map (fun j => b (first + j) * 2 ^ (n - 1 - j))).sum

/-- `decode(o)`; `none` is `Timeout` (41_edge_timing_decoder.md R162). The rule speaks of lists that hold a `Never` or all 83
`End(a)` with `a` at most 90, which are the lists of the runs of the loop. On every other list (fewer than 83 entries without a
`Never`, the empty one among them; more than 83; an `End(a)` above 90) the value given here is the model's choice, DESIGN CHOICE
(log 23): a missing width is bit 0, entries after the 83rd count only if they are `Never`, and a width above 90 is bit 1. -/
def decodeOutcomes (o : List HalfOutcome) : Option Bits :=
  if o.contains .never then none
  else some ⟨fieldOf (dataBit o) 0 16, fieldOf (dataBit o) 16 16, fieldOf (dataBit o) 32 8⟩

/-- The result of an attempt (40_transaction_driver.md R128, 30_encoding.md R102). -/
inductive Result where
  | success (b0 b1 b2 b3 b4 : Nat)
  | rateLimited
  | timeout
  | checksumError
deriving DecidableEq, Repr

/-- `validate` (42_checksum_assembler.md R186). -/
def validateBits : Option Bits → Result
  | none => .timeout
  | some b =>
    if (b.hum + b.hum / 256 + b.temp + b.temp / 256) % 256 = b.checksum then
      .success (b.hum / 256) (b.hum % 256) (b.temp / 256) (b.temp % 256) b.checksum
    else .checksumError

/-- An attempt as a function: (`LAST_VALID`, `LAST_TS`) before it, the `now` of its RATECHECK step, and what the half-intervals
come to, give its result and the pair after it (40_transaction_driver.md R132). -/
def attempt (tsW : Nat) (v : Bool) (last now : Nat) (o : List HalfOutcome) : Result × Bool × Nat :=
  if v = true ∧ elapsedAt tsW last now < Config.tMinInterval then (.rateLimited, v, last)
  else (validateBits (decodeOutcomes o), true, now)

/-- The result that `STATUS` and `OUT` show (40_transaction_driver.md R128). -/
def State.result (s : State) : Result :=
  match s.status with
  | .success =>
    .success (Memory.read s.out 0).toNat (Memory.read s.out 1).toNat (Memory.read s.out 2).toNat (Memory.read s.out 3).toNat
      (Memory.read s.out 4).toNat
  | .rateLimited => .rateLimited
  | .timeout => .timeout
  | .checksumError => .checksumError

/-- How the steps of one half-interval fall: the clock at its IVL_START step, the elapsed times of the polls that find the line
at the wait level, and the elapsed time and level of the poll that ends it, one way or the other. -/
structure HalfRun where
  start : Nat
  waits : List Nat
  last : Nat
  level : Level
deriving DecidableEq, Repr

/-- What the half-interval comes to (41_edge_timing_decoder.md R162). -/
def HalfRun.outcome (r : HalfRun) : HalfOutcome := if Config.tTimeout < r.last then .never else .ended r.last

/-- The steps are those of half-interval `i` on a clock of `tsW` bits: the earlier polls are in time, and the last poll is
either late or sees the line away from the wait level. -/
def HalfRun.fits (tsW : Nat) (i : BitVec 8) (r : HalfRun) : Bool :=
  r.waits.all (fun e => decide (e ≤ Config.tTimeout)) && decide (r.last < 2 ^ tsW) &&
    (decide (Config.tTimeout < r.last) || decide (r.level ≠ waitLevel i))

/-- The inputs of a step that raises no command and no reset. -/
def quiet (now : Nat) (level : Level) : Stimulus := .tick ⟨false, false, 0, now, level⟩

/-- The steps of half-interval `i` (30_encoding.md R103). -/
def HalfRun.script (i : BitVec 8) (r : HalfRun) : List Stimulus :=
  quiet r.start r.level ::
    (r.waits.map (fun e => quiet (r.start + e) (waitLevel i)) ++ [quiet (r.start + r.last) r.level])

/-- The steps of consecutive half-intervals from `i` on. -/
def loopScript : BitVec 8 → List HalfRun → List Stimulus
  | _, [] => []
  | i, r :: rs => r.script i ++ loopScript (i + 1) rs

/-- Every half-interval of the list fits its index. -/
def loopFits (tsW : Nat) : BitVec 8 → List HalfRun → Bool
  | _, [] => true
  | i, r :: rs => r.fits tsW i && loopFits tsW (i + 1) rs

/-- The half-interval ends in time. -/
def HalfRun.inTime (r : HalfRun) : Bool := decide (r.last ≤ Config.tTimeout)

/-- The half-intervals are those of a run of the loop: all 83, each in time, or some in time and then one that is not, after which
no other is timed (41_edge_timing_decoder.md R153, R162). -/
def loopEnds (rs : List HalfRun) : Bool :=
  if rs.all HalfRun.inTime then decide (rs.length = Config.nIntervals)
  else decide (rs.length ≤ Config.nIntervals) && rs.dropLast.all HalfRun.inTime

/-- How the steps of one accepted attempt fall (40_transaction_driver.md R132). -/
structure AttemptRun where
  /-- the inputs of the READ step -/
  command : Inputs
  /-- of the RATECHECK step -/
  check : Inputs
  /-- of the WAKE_HOLD steps, as many as there are -/
  holds : List Inputs
  /-- of the LINE_RELEASE step -/
  release : Inputs
  /-- of the RELEASE_WAIT steps, as many as there are -/
  waits : List Inputs
  /-- of the LOOP_ENTER step -/
  enter : Inputs
  /-- the half-intervals that the loop reaches -/
  halves : List HalfRun
  /-- the inputs of the steps after the loop: VALIDATE, where the loop reaches it, and DONE -/
  closing : List Inputs
deriving DecidableEq, Repr

/-- The inputs of the steps up to the loop. -/
def AttemptRun.opening (r : AttemptRun) : List Inputs :=
  [r.command, r.check] ++ r.holds ++ [r.release] ++ r.waits ++ [r.enter]

/-- The steps of the attempt. -/
def AttemptRun.script (r : AttemptRun) : List Stimulus :=
  r.opening.map Stimulus.tick ++ loopScript Config.iFirst r.halves ++ r.closing.map Stimulus.tick

/-- The steps are those of one attempt on a clock of `tsW` bits: no reset; WAKE holds until the step that finds `T_WAKE_LOW`
gone by, RELEASE waits until the step that finds `T_RELEASE` gone by (40_transaction_driver.md R124 to R126); the half-intervals
are those of a run of the loop; and VALIDATE has a step exactly if the loop ends without a timeout. -/
def AttemptRun.fits (tsW : Nat) (r : AttemptRun) : Bool :=
  (r.opening ++ r.closing).all (fun i => !i.rst) &&
  r.holds.all (fun i => decide (elapsedAt tsW r.check.now i.now < Config.tWakeLow)) &&
  decide (Config.tWakeLow ≤ elapsedAt tsW r.check.now r.release.now) &&
  r.waits.all (fun i => decide (elapsedAt tsW r.release.now i.now < Config.tRelease)) &&
  decide (Config.tRelease ≤ elapsedAt tsW r.release.now r.enter.now) &&
  loopFits tsW Config.iFirst r.halves && loopEnds r.halves &&
  decide (r.closing.length = if r.halves.all HalfRun.inTime then 2 else 1)

/-- A line played at one step a microsecond, from time `t` on, as a run-length list (30_encoding.md R103, `LINE`). -/
def lineScript : Nat → List (Level × Nat) → List Stimulus
  | _, [] => []
  | t, (l, n) :: r => (List.range n).map (fun k => quiet (t + k) l) ++ lineScript (t + n) r

/-- Humidity in tenths of a percent, to a caller; the block computes no such value (42_checksum_assembler.md R188). -/
def humidityTenths (h : Word) : Int := h.toNat

/-- Temperature in tenths of a degree Celsius, sign and magnitude, to a caller; the block computes no such value
(42_checksum_assembler.md R188). -/
def temperatureTenths (t : Word) : Int := if t.getLsbD 15 then -((t.extractLsb' 0 15).toNat : Int) else (t.extractLsb' 0 15).toNat

end Sys2Proof.Machine
end

