-- ==== Sys2Proof/Safety.lean ====
section
/-! DEFINITION. What a claim about the block may take for granted and what holds in every reachable state: the invariants of
10_state.md R44 with the widths of the registers, and the premises on the environment, each on one step. -/

namespace Sys2Proof.Safety

open Sys2Proof.Machine

/-- `PHASE ∈ {IVL_START, POLL}`: the block is in its decode loop. -/
def inLoop (p : Phase) : Bool := decide (p = .ivlStart) || decide (p = .poll)

/-- The phases of an accepted attempt up to the one that ends it (10_state.md R44 item 5). -/
def accepted (p : Phase) : Bool :=
  decide (p = .wake) || decide (p = .release) || decide (p = .ivlStart) || decide (p = .poll) || decide (p = .validate)

/-- The number of odd indices in `64 .. i − 1` for an index from 64 to 79 (10_state.md R44 item 7). -/
def checksumBitsBefore (i : BitVec 8) : Nat := (i.toNat - 64) / 2

/-- The invariants of the reachable states: 10_state.md R44 items 1 to 7 as far as they speak of one state, the widths of the
registers that are held as numbers, the canonical form of `OUT`, and that no wire keeps a value between steps. -/
structure Inv (s : State) : Prop where
  /-- R44 item 1 -/
  critInLoop : s.crit = inLoop s.phase
  /-- R44 item 2 -/
  drivesInWake : s.gpioDir = decide (s.phase = .wake)
  /-- R44 item 3 -/
  neverHigh : s.gpioOut = .low
  /-- R44 item 4 -/
  idxRange : inLoop s.phase = true → -3 ≤ s.idx.toInt ∧ s.idx.toInt ≤ 79
  /-- R44 item 5 -/
  stamped : accepted s.phase = true → s.lastValid = true
  /-- R44 item 5, in the phase in which `T0` is still the time of the RATECHECK step -/
  wakeFromStamp : s.phase = .wake → s.t0 = s.lastTs
  /-- R44 item 6 -/
  checksumByte : s.phase = .validate → s.shreg.toNat < 256
  /-- R44 item 7 -/
  checksumBits : inLoop s.phase = true → 64 ≤ s.idx.toInt → s.shreg.toNat < 2 ^ checksumBitsBefore s.idx
  /-- `PIN` has `PIN_W` bits (10_state.md R24) -/
  pinWidth : s.pin < 2 ^ s.params.pinW
  /-- `T0` has `TS_W` bits (10_state.md R25) -/
  t0Width : s.t0 < 2 ^ s.params.tsW
  /-- `LAST_TS` has `TS_W` bits (10_state.md R31) -/
  lastTsWidth : s.lastTs < 2 ^ s.params.tsW
  /-- the buffer is in canonical form -/
  outWf : Memory.wf s.out = true
  /-- nothing but the fifteen elements is carried from step to step (10_state.md R20) -/
  wiresIdle : s.wires = Wires.idle

/-- The lock, seen from the block: `start` is raised only when `busy = 0` (60_exceptions.md R215). -/
def startOnlyWhenIdle (s : State) : Bool := !(s.start && s.busy)

/-- The command names a usable line (70_reset_and_hazards.md R243). -/
def pinUsable (s : State) : Bool := !(s.start && !s.busy) || s.validPin s.pinId

/-- No preemption in the critical section: with `CRIT = 1` the clock is at most `POLL_GAP_MAX` past its value `prev` of the step
before (70_reset_and_hazards.md R250; log 18). -/
def gapKept (pollGapMax prev : Nat) (s : State) : Bool := !s.crit || decide (s.elapsed prev ≤ pollGapMax)

/-- The clock does not go backwards: its true value `trueNow`, of which `now` shows the low `TS_W` bits, is not below that of
the step before (00_scope.md R10; log 8). -/
def clockRuns (truePrev trueNow : Nat) (s : State) : Bool :=
  decide (truePrev ≤ trueNow) && decide (s.now = trueNow % 2 ^ s.params.tsW)

end Sys2Proof.Safety
end

