-- ==== Sys2Proof/WellFormed.lean ====
section
/-! DEFINITION. Which parameters, inputs and stimuli the spec admits. An `Instr` needs no check: the operations have no operand
and the fields of a frame have their widths in their types (30_encoding.md R94). -/

namespace Sys2Proof

/-- Every operation and every frame is well formed: 30_encoding.md R101, every frame is exactly 40 bits. -/
def Instr.wf : Instr → Bool
  | _ => true

/-- 00_scope.md R7: `TS_W ≥ 22` keeps `T_MIN_INTERVAL` representable; a pin identifier has `PIN_W` bits. -/
def Params.wf (p : Params) : Bool :=
  decide (22 ≤ p.tsW) && p.validPins.all (fun k => decide (k < 2 ^ p.pinW))

/-- 00_scope.md R10, R11: `now` has `TS_W` bits and `pin_id` has `PIN_W` bits. -/
def Inputs.wf (p : Params) (i : Inputs) : Bool :=
  decide (i.now < 2 ^ p.tsW) && decide (i.pinId < 2 ^ p.pinW)

/-- A stimulus is well formed when its inputs are. -/
def Stimulus.wf (p : Params) : Stimulus → Bool
  | .tick i => i.wf p
  | .frame _ _ _ => true

end Sys2Proof
end

