-- ==== Sys2Proof/Certificates/Slice0/Obligations.lean ====
section
/-! DEFINITION. The statements about the block, from the numbered rules of spec/. -/

open Sys2Proof Sys2Proof.Machine Sys2Proof.Safety

/-! ### Reset -/

/-- 10_state.md R43 and 70_reset_and_hazards.md R240: the values the spec gives for reset, in the state after power-on and after
any step with `rst = 1`, whatever the state and the other inputs were. -/
def Obligations.ResetForcesTheStatedValues : Prop :=
  (State.reset.phase = .idle ∧ State.reset.lastValid = false ∧ State.reset.gpioDir = false ∧
    State.reset.gpioOut = .low ∧ State.reset.crit = false) ∧
  ∀ s : State, s.params.enable = true → s.takesInputs = true → s.rst = true →
    ∃ t, step s = .next t ∧ t.phase = .idle ∧ t.lastValid = false ∧ t.gpioDir = false ∧ t.gpioOut = .low ∧ t.crit = false

/-- 70_reset_and_hazards.md R241, R242: what a caller sees right after a reset in the middle of a transaction: not busy, not
done, the line let go, no critical section; and the first rate check after it passes whatever the clock shows. -/
def Obligations.ResetEndsATransactionUnreported : Prop :=
  ∀ s t : State, s.takesInputs = true → s.rst = true → step s = .next t →
    t.ports.busy = false ∧ t.ports.done = false ∧ t.ports.gpioDir = false ∧ t.ports.crit = false ∧
    ∀ u : State, u.lastValid = t.lastValid → u.phase = .ratecheck → selected u = [.stamp, .wakeBegin]

/-! ### The transaction driver -/

/-- 40_transaction_driver.md R120. -/
def Obligations.IdleStepWaitsOrAcceptsTheCommand : Prop :=
  ∀ s : State,
    (s.phase = .idle → s.start = false → selected s = [.idleWait] ∧ exec .idleWait s = .next s) ∧
    (s.phase = .idle → s.start = true → s.pinId ∈ s.params.validPins →
      selected s = [.read] ∧ exec .read s = .next { s with pin := s.pinId, phase := .ratecheck }) ∧
    (s.phase = .idle → s.start = true → s.pinId ∉ s.params.validPins →
      exec .read s = .refused (.invalidPin s.pinId) ∧
        (s.ordinary = true → step s = .refused (.invalidPin s.pinId))) ∧
    (s.phase ≠ .idle → .idleWait ∉ selected s ∧ .read ∉ selected s)

/-- 30_encoding.md R100, 40_transaction_driver.md R120: while the block is busy, `start` and `pin_id` are read by no rule: two
steps that differ only in them end alike. -/
def Obligations.BusyBlockIgnoresStartAndPin : Prop :=
  ∀ (s : State) (i : Inputs) (r : List Stimulus) (b : Bool) (k : Nat), s.phase ≠ .idle → s.script = .tick i :: r →
    step { s with script := .tick { i with start := b, pinId := k } :: r } = step s

/-- 20_memory.md R62: the line is read by `POLL` steps only: two steps of another phase that differ only in `gpio_in` end alike. -/
def Obligations.LineIsReadByPollStepsOnly : Prop :=
  ∀ (s : State) (i : Inputs) (r : List Stimulus) (l : Level), s.phase ≠ .poll → s.script = .tick i :: r →
    step { s with script := .tick { i with gpioIn := l } :: r } = step s

/-- 40_transaction_driver.md R121, in the states that meet the invariants (where `CRIT` is already 0). -/
def Obligations.TooEarlyAttemptIsRateLimited : Prop :=
  ∀ s : State, Inv s → s.phase = .ratecheck →
    (s.lastValid = true ∧ s.elapsed s.lastTs < 2000000 →
      selected s = [.rateReject] ∧ exec .rateReject s = .next { s with status := .rateLimited, phase := .done }) ∧
    (¬(s.lastValid = true ∧ s.elapsed s.lastTs < 2000000) → .rateReject ∉ selected s)

/-- 40_transaction_driver.md R122 and R123. -/
def Obligations.AcceptedAttemptIsStampedAndDrivesLow : Prop :=
  ∀ s : State,
    (s.phase = .ratecheck → ¬(s.lastValid = true ∧ s.elapsed s.lastTs < 2000000) → selected s = [.stamp, .wakeBegin]) ∧
    exec .stamp s = .next { s with lastTs := s.now, lastValid := true } ∧
    exec .wakeBegin s = .next { s with gpioOut := .low, gpioDir := true, t0 := s.now, phase := .wake }

/-- 40_transaction_driver.md R124 and R125. -/
def Obligations.WakePulseHoldsThenReleasesTheLine : Prop :=
  ∀ s : State,
    (s.phase = .wake → s.elapsed s.t0 < 2000 → selected s = [.wakeHold]) ∧
    (s.phase = .wake → 2000 ≤ s.elapsed s.t0 → selected s = [.lineRelease]) ∧
    exec .wakeHold s = .next s ∧
    exec .lineRelease s = .next { s with gpioDir := false, t0 := s.now, phase := .release }

/-- 40_transaction_driver.md R126 and R127. -/
def Obligations.ReleaseWaitEndsInTheDecodeLoop : Prop :=
  ∀ s : State,
    (s.phase = .release → s.elapsed s.t0 < 25 → selected s = [.releaseWait]) ∧
    (s.phase = .release → 25 ≤ s.elapsed s.t0 → selected s = [.loopEnter, .critEnter]) ∧
    exec .releaseWait s = .next s ∧
    (∃ t, exec .loopEnter s = .next t ∧ t = { s with idx := t.idx, phase := .ivlStart } ∧ t.idx.toInt = -3) ∧
    exec .critEnter s = .next { s with crit := true, shreg := 0 }

/-- 40_transaction_driver.md R130. -/
def Obligations.DoneLastsOneStep : Prop :=
  ∀ s : State,
    (s.phase = .done → selected s = [.complete] ∧ s.ports.done = true) ∧
    exec .complete s = .next { s with phase := .idle }

/-! ### The edge-timing decoder -/

/-- 41_edge_timing_decoder.md R150. -/
def Obligations.HalfIntervalStartRecordsTheClock : Prop :=
  ∀ s : State,
    (s.phase = .ivlStart → selected s = [.ivlStart]) ∧
    exec .ivlStart s = .next { s with t0 := s.now, phase := .poll }

/-- 41_edge_timing_decoder.md R151. -/
def Obligations.WaitLevelFollowsParity : Prop :=
  ∀ i : BitVec 8, (i.toInt % 2 ≠ 0 → waitLevel i = .high) ∧ (i.toInt % 2 = 0 → waitLevel i = .low)

/-- 41_edge_timing_decoder.md R152. -/
def Obligations.PollWaitsAtTheWaitLevel : Prop :=
  ∀ s : State,
    (s.phase = .poll → s.elapsed s.t0 ≤ 90 → s.gpioIn = waitLevel s.idx → selected s = [.pollWait]) ∧
    exec .pollWait s = .next s

/-- 41_edge_timing_decoder.md R153, 60_exceptions.md R206: the deadline comes before the level. -/
def Obligations.LatePollTimesOutWhateverTheLevel : Prop :=
  ∀ s : State,
    (s.phase = .poll → 90 < s.elapsed s.t0 → selected s = [.timeoutAbort]) ∧
    exec .timeoutAbort s = .next { s with status := .timeout, crit := false, phase := .done }

/-- A poll of half-interval `IDX` that sees the line away from the wait level in time (41_edge_timing_decoder.md R154). -/
def Sys2Proof.endsHere (s : State) : Prop := s.phase = .poll ∧ s.elapsed s.t0 ≤ 90 ∧ s.gpioIn ≠ waitLevel s.idx

/-- 41_edge_timing_decoder.md R154 and R155: when IVL_END and CLASSIFY are performed; the width goes to `AGE`, whole where it is in
time; the comparator is strict. -/
def Obligations.IntervalEndMeasuresAndClassifies : Prop :=
  ∀ s : State,
    (.ivlEnd ∈ selected s ↔ endsHere s) ∧
    (.classify ∈ selected s ↔ endsHere s ∧ 0 ≤ s.idx.toInt ∧ s.idx.toInt % 2 = 1) ∧
    (∃ t, exec .ivlEnd s = .next t ∧ t = { s with age := t.age } ∧ (s.elapsed s.t0 ≤ 90 → t.age.toNat = s.elapsed s.t0)) ∧
    (∃ t, exec .classify s = .next t ∧ t = { s with wires := { s.wires with bit := t.wires.bit } } ∧
      (t.wires.bit.toNat = 1 ↔ 30 < s.elapsed s.t0))

/-- 41_edge_timing_decoder.md R156, R158 and R159: when SHIFT_IN and the two snapshots are performed, and what each does to the
accumulator as it finds it. -/
def Obligations.AccumulatorShiftsAndSnapshots : Prop :=
  ∀ s : State,
    (.shiftIn ∈ selected s ↔ endsHere s ∧ 0 ≤ s.idx.toInt ∧ s.idx.toInt % 2 = 1) ∧
    (.snapHum ∈ selected s ↔ endsHere s ∧ s.idx.toInt = 31) ∧
    (.snapTemp ∈ selected s ↔ endsHere s ∧ s.idx.toInt = 63) ∧
    (∃ t, exec .shiftIn s = .next t ∧ t = { s with shreg := t.shreg } ∧
      t.shreg.toNat = (2 * s.shreg.toNat + s.wires.bit.toNat) % 2 ^ 16) ∧
    exec .snapHum s = .next { s with rawHum := s.shreg } ∧
    exec .snapTemp s = .next { s with rawTemp := s.shreg, shreg := 0 }

/-- 41_edge_timing_decoder.md R157 and R160: the index grows by 1 and the loop starts again, or, at 79, the loop is left. -/
def Obligations.LoopAdvancesOrExits : Prop :=
  ∀ s : State,
    (.idxAdvance ∈ selected s ↔ endsHere s ∧ s.idx.toInt ≠ 79) ∧
    (.loopExit ∈ selected s ↔ endsHere s ∧ s.idx.toInt = 79) ∧
    (∃ t, exec .idxAdvance s = .next t ∧ t = { s with idx := t.idx, phase := .ivlStart } ∧
      (s.idx.toInt < 127 → t.idx.toInt = s.idx.toInt + 1)) ∧
    exec .loopExit s = .next { s with crit := false, phase := .validate }

/-- 30_encoding.md R99, 41_edge_timing_decoder.md R161: the operations of a poll that ends a half-interval, in their order. -/
def Obligations.IntervalEndSelectsByIndex : Prop :=
  ∀ s : State, s.phase = .poll → s.elapsed s.t0 ≤ 90 → s.gpioIn ≠ waitLevel s.idx →
    selected s =
      [.ivlEnd] ++ (if 0 ≤ s.idx.toInt ∧ s.idx.toInt % 2 = 1 then [.classify, .shiftIn] else []) ++
        (if s.idx.toInt = 31 then [.snapHum] else []) ++ (if s.idx.toInt = 63 then [.snapTemp] else []) ++
        (if s.idx.toInt = 79 then [.loopExit] else [.idxAdvance])

/-- The accumulator after the shift of 41_edge_timing_decoder.md R161, before the index-specific action. -/
def Sys2Proof.shiftedAtEnd (s : State) : Word :=
  if 0 ≤ s.idx.toInt ∧ s.idx.toInt % 2 = 1 then
    BitVec.ofNat 16 (2 * s.shreg.toNat + if 30 < s.elapsed s.t0 then 1 else 0)
  else s.shreg

/-- 41_edge_timing_decoder.md R161: the poll that ends a half-interval, written out as one step. -/
def Obligations.IntervalEndStepAsAWhole : Prop :=
  ∀ s : State, s.ordinary = true → s.phase = .poll → s.elapsed s.t0 ≤ 90 → s.gpioIn ≠ waitLevel s.idx →
    step s = .next (State.advance { s with
      age := BitVec.ofNat 7 (s.elapsed s.t0)
      rawHum := if s.idx.toInt = 31 then shiftedAtEnd s else s.rawHum
      rawTemp := if s.idx.toInt = 63 then shiftedAtEnd s else s.rawTemp
      shreg := if s.idx.toInt = 63 then 0 else shiftedAtEnd s
      crit := if s.idx.toInt = 79 then false else s.crit
      idx := if s.idx.toInt = 79 then s.idx else s.idx + 1
      phase := if s.idx.toInt = 79 then .validate else .ivlStart })

/-- 30_encoding.md R93: the bit-symbol code, boundary by boundary, and that a poll which ends a used half-interval shifts in
exactly the bit the code gives for its width. -/
def Obligations.BitSymbolCodeIsTheOneShiftedIn : Prop :=
  (∀ i : BitVec 8, symbolOf i none = .timeout) ∧
  (∀ (i : BitVec 8) (a : Nat), 90 < a → symbolOf i (some a) = .timeout) ∧
  (∀ (i : BitVec 8) (a : Nat), a ≤ 90 → 0 ≤ i.toInt → i.toInt % 2 = 1 →
    symbolOf i (some a) = .bit (if a ≤ 30 then 0 else 1)) ∧
  (∀ (i : BitVec 8) (a : Nat), a ≤ 90 → (i.toInt < 0 ∨ i.toInt % 2 = 0) → symbolOf i (some a) = .noInformation) ∧
  ∀ (s t : State) (b : BitVec 1), s.ordinary = true → s.phase = .poll → s.gpioIn ≠ waitLevel s.idx →
    symbolOf s.idx (some (s.elapsed s.t0)) = .bit b → s.idx.toInt ≠ 63 → step s = .next t →
    t.shreg.toNat = (2 * s.shreg.toNat + b.toNat) % 2 ^ 16

/-! ### The validator and the assembler -/

/-- 42_checksum_assembler.md R180 and R181, with the sums as numbers. -/
def Obligations.ChecksumsAreComputed : Prop :=
  ∀ s : State,
    (.csumCompute ∈ selected s ↔ s.phase = .validate) ∧ (.csumReceived ∈ selected s ↔ s.phase = .validate) ∧
    (∃ t, exec .csumCompute s = .next t ∧
      t = { s with wires := { s.wires with sum16 := t.wires.sum16, expected := t.wires.expected } } ∧
      t.wires.sum16.toNat =
        (s.rawHum.toNat + s.rawHum.toNat / 256 + s.rawTemp.toNat + s.rawTemp.toNat / 256) % 2 ^ 16 ∧
      t.wires.expected.toNat = t.wires.sum16.toNat % 2 ^ 8) ∧
    (∃ t, exec .csumReceived s = .next t ∧ t = { s with wires := { s.wires with received := t.wires.received } } ∧
      t.wires.received.toNat = s.shreg.toNat % 256)

/-- 42_checksum_assembler.md R182, in the states that meet the invariants (where `CRIT` is already 0): the step reports
`CHECKSUM_ERROR` and writes nothing else. -/
def Obligations.WrongChecksumDiscardsTheReading : Prop :=
  ∀ s : State, Inv s → s.phase = .validate →
    (s.rawHum.toNat + s.rawHum.toNat / 256 + s.rawTemp.toNat + s.rawTemp.toNat / 256) % 256 ≠ s.shreg.toNat % 256 →
    selected s = [.csumCompute, .csumReceived, .csumFail] ∧
    exec .csumFail s = .next { s with status := .checksumError, phase := .done } ∧
    (s.ordinary = true → step s = .next (State.advance { s with status := .checksumError, phase := .done }))

/-- 42_checksum_assembler.md R183: what ASSEMBLE writes, byte by byte, and that it writes nothing else. -/
def Obligations.AssembleWritesTheFiveBytes : Prop :=
  ∀ s : State, Memory.wf s.out = true →
    ∃ t, exec .assemble s = .next t ∧ t = { s with out := t.out, status := .success, phase := .done } ∧
      (Memory.read t.out 0).toNat = s.rawHum.toNat / 256 ∧ (Memory.read t.out 1).toNat = s.rawHum.toNat % 256 ∧
      (Memory.read t.out 2).toNat = s.rawTemp.toNat / 256 ∧ (Memory.read t.out 3).toNat = s.rawTemp.toNat % 256 ∧
      Memory.read t.out 4 = s.wires.received ∧ ∀ a, 5 ≤ a → Memory.read t.out a = Memory.read s.out a

/-- 42_checksum_assembler.md R183, 20_memory.md R65, R68: the succeeding VALIDATE step as a whole; the port `out_bytes` shows the
40 bits of the frame. -/
def Obligations.RightChecksumDeliversTheFrame : Prop :=
  ∀ s : State, Inv s → s.ordinary = true → s.phase = .validate →
    (s.rawHum.toNat + s.rawHum.toNat / 256 + s.rawTemp.toNat + s.rawTemp.toNat / 256) % 256 = s.shreg.toNat % 256 →
    selected s = [.csumCompute, .csumReceived, .assemble] ∧
    ∃ t, step s = .next t ∧ t = State.advance { s with out := t.out, status := .success, phase := .done } ∧
      t.ports.outBytes.toNat = s.rawHum.toNat * 2 ^ 24 + s.rawTemp.toNat * 2 ^ 8 + s.shreg.toNat

/-- 42_checksum_assembler.md R184: the two checksum formulas are one function. -/
def Obligations.ChecksumFormulasAgree : Prop :=
  ∀ h t : Word,
    (expectedOf h t).toNat =
      (h.toNat / 256 + h.toNat % 256 + t.toNat / 256 + t.toNat % 256) % 256 ∧
    (h.toNat + h.toNat / 256 + t.toNat + t.toNat / 256) % 256 =
      (h.toNat / 256 + h.toNat % 256 + t.toNat / 256 + t.toNat % 256) % 256

/-- 42_checksum_assembler.md R182 (its corner cases): a frame with a correct checksum and exactly one bit inverted is never
accepted. -/
def Obligations.OneBitErrorIsAlwaysCaught : Prop :=
  ∀ (h t : Word) (c : Byte), expectedOf h t = c → ∀ k, k < 40 →
    ∀ (h' t' : Word) (c' : Byte), frameOf ((h ++ t ++ c) ^^^ BitVec.twoPow 40 k) = .frame h' t' c' → expectedOf h' t' ≠ c'

/-! ### The wire frame -/

/-- 30_encoding.md R94, R95, 41_edge_timing_decoder.md R160: a frame taken whole lands in its registers and leaves the loop; the
width and the start time of its last half-interval, which no rule gives, are constrained by the last bit only (log 13). -/
def Obligations.FrameLandsInItsRegisters : Prop :=
  ∀ (h t : Word) (c : Byte) (s : State),
    ∃ u, exec (.frame h t c) s = .next u ∧
      u = { s with rawHum := h, rawTemp := t, shreg := u.shreg, idx := u.idx, age := u.age, t0 := u.t0, crit := false,
                   phase := .validate } ∧
      u.shreg.toNat = c.toNat ∧ u.idx.toInt = 79 ∧ u.age.toNat ≤ 90 ∧ (30 < u.age.toNat ↔ c.toNat % 2 = 1) ∧
      u.t0 < 2 ^ s.params.tsW

/-- 30_encoding.md R94, R95: bit `k` of a frame in arrival order, and the sums it enters. -/
def Obligations.FrameFieldsAreSumsOfTheirBits : Prop :=
  ∀ (w : BitVec 40) (h t : Word) (c : Byte), frameOf w = .frame h t c →
    h.toNat = fieldOf (fun k => (w.getMsbD k).toNat) 0 16 ∧
    t.toNat = fieldOf (fun k => (w.getMsbD k).toNat) 16 16 ∧
    c.toNat = fieldOf (fun k => (w.getMsbD k).toNat) 32 8

/-! ### Decoding -/

/-- The column `PHASE` of 30_encoding.md R99, in its words; a frame is no row over `SEQ`. -/
def Sys2Proof.tablePhase : Instr → Option Phase
  | .idleWait | .read => some .idle
  | .rateReject | .stamp | .wakeBegin => some .ratecheck
  | .wakeHold | .lineRelease => some .wake
  | .releaseWait | .loopEnter | .critEnter => some .release
  | .ivlStart => some .ivlStart
  | .timeoutAbort | .pollWait | .ivlEnd | .classify | .shiftIn => some .poll
  | .snapHum | .snapTemp | .idxAdvance | .loopExit => some .poll
  | .csumCompute | .csumReceived | .csumFail | .assemble => some .validate
  | .complete => some .done
  | .frame _ _ _ => none

/-- The column `IDX` of 30_encoding.md R99, as far as the mask looks at it. -/
def Sys2Proof.tableIdx (i : Instr) (x : BitVec 8) : Prop :=
  match i with
  | .classify | .shiftIn => 0 ≤ x.toInt ∧ x.toInt % 2 = 1
  | .snapHum => x.toInt = 31
  | .snapTemp => x.toInt = 63
  | .loopExit => x.toInt = 79
  | _ => True

/-- 30_encoding.md R97, R98, R99: for every phase and index the decoder gives exactly the rows whose mask and match fit. That is
the column `IDX` of R99 only as far as the mask looks at it: IDX_ADVANCE is given at 79 too, where its condition `IDX ≠ 79` rules
it out, and the rows of IVL_START and POLL are given at an index outside −3 to 79 too (log 9, DESIGN CHOICE). That a number of more
than 11 bits, or of more than 40 for a frame, is refused is read from the widths of R97 and R101 by inference (log 21, DEDUCED). -/
def Obligations.DecoderGivesTheRowsOfTheTable : Prop :=
  (∀ (p : Phase) (x : BitVec 8), ∃ rows, decode 11 (p.code.toNat * 256 + x.toNat) = .ok rows ∧ rows.Nodup ∧
    ∀ i : Instr, i ∈ rows ↔ tablePhase i = some p ∧ tableIdx i x) ∧
  (∀ w : Nat, 2 ^ 11 ≤ w → decode 11 w = .error .bitsAboveSeq) ∧
  (∀ w : Nat, 2 ^ 40 ≤ w → decode 40 w = .error .bitsAboveFrame)

/-- Decoding an encoded instruction gives it back: every operation is among the rows of its word, and a frame, with its fields at
every value, is the one reading of its 40 bits (30_encoding.md R94, R99). -/
def Obligations.DecodeOfEncodeGivesTheInstruction : Prop :=
  (∀ i : Instr, i.wf = true → ∃ rows, decode (encode i).nbits (encode i).word = .ok rows ∧ i ∈ rows) ∧
  (∀ (h t : Word) (c : Byte), decodeTableWord 40 (encode (.frame h t c)).word = some (.frame h t c)) ∧
  (∀ w : Nat, w < 2 ^ 40 → ∃ h t c, decode 40 w = .ok [.frame h t c] ∧ encode (.frame h t c) = ⟨40, w⟩)

/-- Words written out from 30_encoding.md R99 and R94 decode to the rows they stand for. -/
def Obligations.WrittenOutWordsDecode : Prop :=
  decode 11 0b01000000000 = .ok [.wakeHold, .lineRelease] ∧
  decode 11 0b10100011111 =
    .ok [.timeoutAbort, .pollWait, .ivlEnd, .classify, .shiftIn, .snapHum, .idxAdvance] ∧
  decode 11 0b11001001111 = .ok [.csumCompute, .csumReceived, .csumFail, .assemble] ∧
  decode 11 0b11101001111 = .ok [.complete] ∧
  decode 40 0b0000001001011100000000010000010101100100 = .ok [.frame 0x025C 0x0105 0x64]

/-! ### The step -/

/-- 00_scope.md R11, 30_encoding.md R99: a step performs the operations that the decoder reads from `SEQ` and whose conditions
hold, one after another, and then `advance`; a single selected operation is exactly its `exec`. The fourth clause, that a whole
frame in the script is performed by one step where the loop starts, is no rule of the spec: it is the model's choice (log 13,
DESIGN CHOICE). -/
def Obligations.StepPerformsTheDecodedOperations : Prop :=
  (∀ s : State, s.ordinary = true → selected s ≠ [] → step s = finish (runOps (selected s) s)) ∧
  (∀ s : State, ∃ rows, decode 11 s.seq.toNat = .ok rows ∧ selected s = rows.filter (fun i => condition i s)) ∧
  (∀ (s : State) (i : Instr), s.ordinary = true → selected s = [i] → step s = finish (exec i s)) ∧
  (∀ (s : State) (h t : Word) (c : Byte) (r : List Stimulus), s.params.enable = true → s.script = .frame h t c :: r →
    s.phase = .ivlStart → s.idx.toInt = -3 → step s = finish (exec (.frame h t c) s))

/-- Two stops of a step, both the model's own reading. That a step with `ENABLE = 0` is refused is inferred from 00_scope.md R7,
"the block is absent and nothing in this spec applies" (log 16, DEDUCED). That a whole frame in the script, away from the start
of the loop, is refused is no rule of the spec: it is the model's choice (log 13, DESIGN CHOICE). -/
def Obligations.StepStopsByName : Prop :=
  (∀ s : State, s.params.enable = false → step s = .refused .blockAbsent) ∧
  (∀ (s : State) (h t : Word) (c : Byte) (r : List Stimulus), s.params.enable = true → s.script = .frame h t c :: r →
    ¬(s.phase = .ivlStart ∧ s.idx.toInt = -3) → step s = .refused .frameOutsideLoop)

/-- The rows of 30_encoding.md R99 that decide where the sequencer goes or that it stays. -/
def Sys2Proof.decidesPhase (i : Instr) : Bool :=
  match i with
  | .idleWait | .read | .rateReject | .wakeBegin | .wakeHold | .lineRelease | .releaseWait | .loopEnter => true
  | .ivlStart | .timeoutAbort | .pollWait | .idxAdvance | .loopExit | .csumFail | .assemble | .complete => true
  | _ => false

/-- 30_encoding.md R99: in every step exactly one such row is selected, but for a command that names no valid pin; and an ordinary
step then answers a next state. -/
def Obligations.EveryStepHasExactlyOneSuccessor : Prop :=
  ∀ s : State,
    (pinUsable s = true →
      (selected s).countP decidesPhase = 1 ∧ (s.ordinary = true → ∃ t, step s = .next t)) ∧
    (s.phase = .idle → s.start = true → s.pinId ∉ s.params.validPins → selected s = [])

/-- The sequencer table of 10_state.md R23: the phase and, in the loop, the index that follow. -/
def Sys2Proof.successor (s : State) : Phase × Int :=
  match s.phase with
  | .idle => (if s.start = true then .ratecheck else .idle, s.idx.toInt)
  | .ratecheck => (if s.lastValid = true ∧ s.elapsed s.lastTs < 2000000 then .done else .wake, s.idx.toInt)
  | .wake => (if s.elapsed s.t0 < 2000 then .wake else .release, s.idx.toInt)
  | .release => if s.elapsed s.t0 < 25 then (.release, s.idx.toInt) else (.ivlStart, -3)
  | .ivlStart => (.poll, s.idx.toInt)
  | .poll =>
    if 90 < s.elapsed s.t0 then (.done, s.idx.toInt)
    else if s.gpioIn = waitLevel s.idx then (.poll, s.idx.toInt)
    else if s.idx.toInt < 79 then (.ivlStart, s.idx.toInt + 1)
    else (.validate, 79)
  | .validate => (.done, s.idx.toInt)
  | .done => (.idle, s.idx.toInt)

/-- 10_state.md R23: the whole control flow of the block, with the result kind that each way into `DONE` reports. -/
def Obligations.SequencerFollowsItsTable : Prop :=
  ∀ s t : State, Inv s → s.ordinary = true → step s = .next t →
    (t.phase, t.idx.toInt) = successor s ∧
    (s.phase = .ratecheck → t.phase = .done → t.status = .rateLimited) ∧
    (s.phase = .poll → t.phase = .done → t.status = .timeout) ∧
    (s.phase = .validate →
      (t.status = .success ↔
        (s.rawHum.toNat + s.rawHum.toNat / 256 + s.rawTemp.toNat + s.rawTemp.toNat / 256) % 256 = s.shreg.toNat % 256) ∧
      (t.status ≠ .success → t.status = .checksumError))

/-- The step of one phase as the rules of files 40, 41 and 42 read when all that happens in it is written out together: no
operation, no order, one record. -/
def Sys2Proof.flatStep (s : State) : State :=
  let e := s.elapsed s.t0
  match s.phase with
  | .idle => if s.start = true then { s with pin := s.pinId, phase := .ratecheck } else s
  | .ratecheck =>
    if s.lastValid = true ∧ s.elapsed s.lastTs < 2000000 then { s with status := .rateLimited, phase := .done }
    else { s with lastTs := s.now, lastValid := true, gpioOut := .low, gpioDir := true, t0 := s.now, phase := .wake }
  | .wake => if e < 2000 then s else { s with gpioDir := false, t0 := s.now, phase := .release }
  | .release => if e < 25 then s else { s with idx := -3, crit := true, shreg := 0, phase := .ivlStart }
  | .ivlStart => { s with t0 := s.now, phase := .poll }
  | .poll =>
    if 90 < e then { s with status := .timeout, crit := false, phase := .done }
    else if s.gpioIn = waitLevel s.idx then s
    else
      { s with
        age := BitVec.ofNat 7 e
        rawHum := if s.idx = 31 then shiftedAtEnd s else s.rawHum
        rawTemp := if s.idx = 63 then shiftedAtEnd s else s.rawTemp
        shreg := if s.idx = 63 then 0 else shiftedAtEnd s
        crit := if s.idx = 79 then false else s.crit
        idx := if s.idx = 79 then s.idx else s.idx + 1
        phase := if s.idx = 79 then .validate else .ivlStart }
  | .validate =>
    if (s.rawHum.toNat + s.rawHum.toNat / 256 + s.rawTemp.toNat + s.rawTemp.toNat / 256) % 256 = s.shreg.toNat % 256 then
      { s with
        out := Memory.ofBytes (s.rawHum ++ s.rawTemp ++ s.shreg.setWidth 8)
        status := .success
        phase := .done }
    else { s with status := .checksumError, phase := .done }
  | .done => { s with phase := .idle }

/-- 41_edge_timing_decoder.md R161, 10_state.md R23: the machine of single operations and the machine that does all of a phase in
one record are the same, from every state that meets the invariants. -/
def Obligations.StepEqualsTheFlatMachine : Prop :=
  ∀ s : State, Inv s → s.ordinary = true → ¬(s.phase = .idle ∧ s.start = true ∧ s.pinId ∉ s.params.validPins) →
    step s = .next (flatStep s).advance

/-! ### Invariants and frames -/

/-- 10_state.md R44: every step keeps the invariants of the reachable states. -/
def Obligations.StepKeepsTheInvariants : Prop :=
  ∀ s t : State, Inv s → step s = .next t → Inv t

/-- 10_state.md R44: the state after reset meets them. Its registers without a stated reset value hold the values of log 5 and
log 7, which are the model's choice; the invariants ask of them no more than their width. -/
def Obligations.ResetMeetsTheInvariants : Prop := Inv State.reset

/-- 60_exceptions.md R207: `raise <Failure>` means exactly three writes; the model reads the rule as the entry of all three
failure kinds (log 10). -/
def Obligations.FailureEntryWritesThreeElements : Prop :=
  ∀ s : State,
    exec .rateReject s = .next { s with status := .rateLimited, crit := false, phase := .done } ∧
    exec .timeoutAbort s = .next { s with status := .timeout, crit := false, phase := .done } ∧
    exec .csumFail s = .next { s with status := .checksumError, crit := false, phase := .done }

/-- 10_state.md R45: what each operation of the sequencer leaves alone, for each of the fifteen elements of R20; of the result
buffer, every byte. (FRAME is no operation of the sequencer: FrameLandsInItsRegisters says it whole.) -/
def Obligations.OperationsKeepWhatTheyDoNotWrite : Prop :=
  ∀ (i : Instr) (s t : State), exec i s = .next t → (∀ h u c, i ≠ .frame h u c) →
    (i ∉ [.read, .rateReject, .wakeBegin, .lineRelease, .loopEnter, .ivlStart, .timeoutAbort, .idxAdvance, .loopExit, .csumFail,
        .assemble, .complete] → t.phase = s.phase) ∧
    (i ≠ .read → t.pin = s.pin) ∧
    (i ∉ [.wakeBegin, .lineRelease, .ivlStart] → t.t0 = s.t0) ∧
    (i ∉ [.loopEnter, .idxAdvance] → t.idx = s.idx) ∧
    (i ≠ .ivlEnd → t.age = s.age) ∧
    (i ∉ [.critEnter, .shiftIn, .snapTemp] → t.shreg = s.shreg) ∧
    (i ≠ .snapHum → t.rawHum = s.rawHum) ∧
    (i ≠ .snapTemp → t.rawTemp = s.rawTemp) ∧
    (i ∉ [.rateReject, .timeoutAbort, .csumFail, .assemble] → t.status = s.status) ∧
    (i ≠ .stamp → t.lastTs = s.lastTs ∧ t.lastValid = s.lastValid) ∧
    (i ∉ [.wakeBegin, .lineRelease] → t.gpioDir = s.gpioDir) ∧
    (i ≠ .wakeBegin → t.gpioOut = s.gpioOut) ∧
    (i ∉ [.rateReject, .critEnter, .timeoutAbort, .loopExit, .csumFail] → t.crit = s.crit) ∧
    (i ≠ .assemble → ∀ a, Memory.read t.out a = Memory.read s.out a) ∧
    (i ∉ [.classify, .csumCompute, .csumReceived] → t.wires = s.wires) ∧
    (t.params = s.params ∧ t.script = s.script ∧ t.tick = s.tick)

/-- 10_state.md R31 and R32: a step other than a reset changes the rate-limit state only by accepting an attempt. -/
def Obligations.RateLimitStateIsWrittenByAcceptanceOnly : Prop :=
  ∀ s t : State, step s = .next t → ¬(s.takesInputs = true ∧ s.rst = true) →
    (t.lastTs = s.lastTs ∧ t.lastValid = s.lastValid) ∨
    (s.phase = .ratecheck ∧ ¬(s.lastValid = true ∧ s.elapsed s.lastTs < 2000000) ∧ t.lastTs = s.now ∧ t.lastValid = true ∧
      t.phase = .wake)

/-- 10_state.md R36, 20_memory.md R68: a step other than a reset either leaves every byte of the result as it was, or is a
VALIDATE step that succeeds and writes all five. -/
def Obligations.ResultIsWrittenWholeOrNotAtAll : Prop :=
  ∀ s t : State, Inv s → step s = .next t → ¬(s.takesInputs = true ∧ s.rst = true) →
    (∀ a, Memory.read t.out a = Memory.read s.out a) ∨
    (s.phase = .validate ∧ t.phase = .done ∧ t.status = .success ∧
      t.ports.outBytes.toNat = s.rawHum.toNat * 2 ^ 24 + s.rawTemp.toNat * 2 ^ 8 + s.shreg.toNat ∧
      (Memory.read t.out 4).toNat =
        ((Memory.read t.out 0).toNat + (Memory.read t.out 1).toNat + (Memory.read t.out 2).toNat +
          (Memory.read t.out 3).toNat) % 256)

/-- 10_state.md R30: a step other than a reset writes `STATUS` only when it enters `DONE`, and in `DONE` and `IDLE` it stays. -/
def Obligations.StatusIsWrittenOnEnteringDoneOnly : Prop :=
  ∀ s t : State, step s = .next t → ¬(s.takesInputs = true ∧ s.rst = true) → t.status ≠ s.status →
    t.phase = .done ∧ (s.phase = .ratecheck ∨ s.phase = .poll ∨ s.phase = .validate)

/-- 10_state.md R33, R35, 20_memory.md R77: as the ports show it after any step from a state that meets the invariants, the line
is driven exactly while the pulse lasts and only low, and the critical section is asked for exactly in the decode loop. -/
def Obligations.LineAndCriticalSectionFollowThePhase : Prop :=
  ∀ s t : State, Inv s → step s = .next t →
    (t.ports.gpioDir = true ↔ t.phase = .wake) ∧ t.ports.gpioOut = .low ∧
    (t.ports.crit = true ↔ t.phase = .ivlStart ∨ t.phase = .poll) ∧
    (s.ports.crit = true → t.ports.crit = false → t.phase = .done ∨ t.phase = .validate ∨ t.phase = .idle)

/-- 10_state.md R37: the output ports. -/
def Obligations.PortsAreFunctionsOfTheState : Prop :=
  ∀ s : State,
    (s.ports.busy = true ↔ s.phase ≠ .idle) ∧ (s.ports.done = true ↔ s.phase = .done) ∧ s.ports.gpioSel = s.pin ∧
    s.ports.gpioDir = s.gpioDir ∧ s.ports.gpioOut = s.gpioOut ∧ s.ports.crit = s.crit ∧
    s.ports.status.toNat =
      (match s.status with | .success => 0 | .rateLimited => 1 | .timeout => 2 | .checksumError => 3) ∧
    s.ports.outBytes.toNat =
      (Memory.read s.out 0).toNat * 2 ^ 32 + (Memory.read s.out 1).toNat * 2 ^ 24 + (Memory.read s.out 2).toNat * 2 ^ 16 +
        (Memory.read s.out 3).toNat * 2 ^ 8 + (Memory.read s.out 4).toNat

/-- 20_memory.md R64, R66, 00_scope.md R9: the result buffer has five bytes, read and written one at a time; any other index or
size is refused; a read after a write gives the byte written and every other byte is as before. -/
def Obligations.ResultBufferIsFiveBytes : Prop :=
  ∀ (s : State) (k : Nat), Memory.wf s.out = true →
    (k < 5 → memRead k 1 s = .next (Memory.read s.out k)) ∧
    (5 ≤ k → memRead k 1 s = .refused (.noSuchByte k) ∧ ∀ v, memWrite k 1 v s = .refused (.noSuchByte k)) ∧
    (∀ n, n ≠ 1 → memRead k n s = .refused (.accessSize n) ∧ ∀ v, memWrite k n v s = .refused (.accessSize n)) ∧
    (k < 5 → ∀ v, ∃ t, memWrite k 1 v s = .next t ∧ t = { s with out := t.out } ∧ Memory.wf t.out = true ∧
      memRead k 1 t = .next v ∧ ∀ j, j ≠ k → Memory.read t.out j = Memory.read s.out j)

/-! ### Time -/

/-- 00_scope.md R10, 70_reset_and_hazards.md R255: where the clock shows the low `TS_W` bits of a true time that is not before a
recorded one, `elapsed` of the recorded time is the true elapsed time, as long as that is less than one wrap. -/
def Obligations.ElapsedIsTrueTimeWithinOneWrap : Prop :=
  ∀ (s : State) (recorded trueNow : Nat), clockRuns recorded trueNow s = true →
    trueNow - recorded < 2 ^ s.params.tsW → s.elapsed (recorded % 2 ^ s.params.tsW) = trueNow - recorded

/-- 70_reset_and_hazards.md R250, R259: with consecutive steps of the critical section at most `g` apart, a half-interval that has
not ended by a poll is at most `90 + g` old at the next one. -/
def Obligations.HalfIntervalLastsNinetyAndOneGap : Prop :=
  ∀ (s t : State) (g : Nat), Inv s → s.ordinary = true → s.phase = .poll → step s = .next t → t.phase = .poll →
    gapKept g s.now t = true → 90 + g < 2 ^ s.params.tsW → t.elapsed t.t0 ≤ 90 + g

/-- How long a phase can wait, in microseconds since `T0` (40_transaction_driver.md R124, R126, 41_edge_timing_decoder.md R152); the
other phases do not wait. -/
def Sys2Proof.waitLimit : Phase → Nat
  | .wake => 2000
  | .release => 25
  | .poll => 91
  | _ => 0

/-- How many steps other than waits a transaction still takes at the most, from its phase and its index (10_state.md R23). -/
def Sys2Proof.stepsLeft (s : State) : Nat :=
  match s.phase with
  | .idle => 0
  | .done => 1
  | .validate => 2
  | .poll => 3 + 2 * (79 - s.idx.toInt).toNat
  | .ivlStart => 4 + 2 * (79 - s.idx.toInt).toNat
  | .release => 169
  | .wake => 170
  | .ratecheck => 171

/-- 70_reset_and_hazards.md R256. First, an ordinary step of a busy block is a wait, which changes nothing and happens only before
the limit of its phase, or it brings the transaction nearer to its end. Second, from any state of a transaction and on any clock
that does not go backwards and exceeds every bound, DONE is reached after finitely many steps, and IDLE one step later. The true
times are `now` of the inputs, of which the block sees the low `TS_W` bits; that two consecutive steps are less than a wrap apart
is the premise on the clock of 00_scope.md R10 (with room for the longest wait, 2000 microseconds). -/
def Obligations.EveryTransactionEndsIfTimePasses : Prop :=
  (∀ s : State, Inv s → s.ordinary = true → s.phase ≠ .idle →
    ∃ t, step s = .next t ∧ (stepsLeft t < stepsLeft s ∨ (t = s.advance ∧ s.elapsed s.t0 < waitLimit s.phase))) ∧
  ∀ (s : State) (inp : Nat → Inputs), Inv s → s.params.enable = true → 22 ≤ s.params.tsW → s.phase ≠ .idle →
    (∀ k, (inp k).rst = false) → (∀ k, (inp k).now ≤ (inp (k + 1)).now) →
    (∀ k, (inp (k + 1)).now + 2000 ≤ (inp k).now + 2 ^ s.params.tsW) → (∀ bound, ∃ k, bound ≤ (inp k).now) →
    ∃ k u t, Host.Core.run core k { s with script := (List.range (k + 1)).map (fun j => .tick (inp j)) } = .next u ∧
      u.phase = .done ∧ step u = .next t ∧ t.phase = .idle

/-- 70_reset_and_hazards.md R256, on one kind of schedule: in every busy phase an ordinary step whose clock is 2000 µs or more past
`T0` leaves the phase; and seven steps, each at least 2000 µs after the one before, end any transaction, wherever it stands (a poll
so late is a timeout). Any other schedule: EveryTransactionEndsIfTimePasses. -/
def Obligations.SevenSpacedStepsEndATransaction : Prop :=
  (∀ s : State, Inv s → s.ordinary = true → s.phase ≠ .idle → 2000 ≤ s.elapsed s.t0 →
    ∃ t, step s = .next t ∧ t.phase ≠ s.phase) ∧
  ∀ (s : State) (n : Nat → Nat) (l : Nat → Level), Inv s → s.params.enable = true → 22 ≤ s.params.tsW → s.phase ≠ .idle →
    (∀ k, k < 7 → n k < 2 ^ s.params.tsW) → s.t0 + 2000 ≤ n 0 → (∀ k, k < 6 → n k + 2000 ≤ n (k + 1)) →
    s.script = (List.range 7).map (fun k => quiet (n k) (l k)) →
    ∃ k t, k ≤ 7 ∧ Host.Core.run core k s = .next t ∧ t.phase = .idle

/-! ### The decode loop and the transaction as functions of the line -/

/-- 41_edge_timing_decoder.md R162, 30_encoding.md R95: for every way in which 83 half-intervals can end in time, the steps of the
loop lead from its start to `VALIDATE` with the fields that `decode` gives; the frame of those fields, taken whole, leads to the
same registers. -/
def Obligations.DecodeLoopReadsTheFrame : Prop :=
  ∀ (s : State) (rs : List HalfRun) (rest : List Stimulus), s.params.enable = true → 22 ≤ s.params.tsW →
    s.phase = .ivlStart → s.idx.toInt = -3 → rs.length = 83 → loopFits s.params.tsW s.idx rs = true →
    (∀ r ∈ rs, r.last ≤ 90) → s.script = loopScript s.idx rs ++ rest →
    ∃ t b, Host.Core.run core (loopScript s.idx rs).length s = .next t ∧
      decodeOutcomes (rs.map HalfRun.outcome) = some b ∧
      t.phase = .validate ∧ t.crit = false ∧ t.idx.toInt = 79 ∧ t.rawHum.toNat = b.hum ∧ t.rawTemp.toNat = b.temp ∧
      t.shreg.toNat = b.checksum ∧ t.script = rest ∧ t.out = s.out ∧ t.status = s.status ∧ t.lastTs = s.lastTs ∧
      t.lastValid = s.lastValid ∧ t.pin = s.pin ∧ t.gpioDir = s.gpioDir ∧ t.params = s.params ∧
      ∃ u, exec (.frame (BitVec.ofNat 16 b.hum) (BitVec.ofNat 16 b.temp) (BitVec.ofNat 8 b.checksum)) s = .next u ∧
        u.phase = t.phase ∧ u.crit = t.crit ∧ u.idx = t.idx ∧ u.rawHum = t.rawHum ∧ u.rawTemp = t.rawTemp ∧
        u.shreg = t.shreg ∧ u.out = t.out ∧ u.status = t.status

/-- 41_edge_timing_decoder.md R153, R162: wherever a half-interval does not end in time, the loop stops there with `TIMEOUT`, no
byte is written, and no later half-interval is timed. -/
def Obligations.MissingEdgeAbortsTheLoop : Prop :=
  ∀ (s : State) (rs : List HalfRun) (bad : HalfRun) (rest : List Stimulus), s.params.enable = true → 22 ≤ s.params.tsW →
    s.phase = .ivlStart → s.idx.toInt = -3 → rs.length < 83 → loopFits s.params.tsW s.idx (rs ++ [bad]) = true →
    (∀ r ∈ rs, r.last ≤ 90) → 90 < bad.last → s.script = loopScript s.idx (rs ++ [bad]) ++ rest →
    decodeOutcomes ((rs ++ [bad]).map HalfRun.outcome) = none ∧
    ∃ t, Host.Core.run core (loopScript s.idx (rs ++ [bad])).length s = .next t ∧ t.phase = .done ∧ t.status = .timeout ∧
      t.crit = false ∧ t.idx.toInt = -3 + rs.length ∧ t.script = rest ∧ t.out = s.out ∧ t.lastTs = s.lastTs ∧
      t.lastValid = s.lastValid

/-- 40_transaction_driver.md R132, 42_checksum_assembler.md R186: a whole accepted attempt, from the command to the return to `IDLE`,
for every way in which its steps can fall on a clock of any width from 22 bits: any number of steps that hold the pulse, any number
that wait after the release, and any half-intervals, whether all 83 end in time or one does not; the result and the rate-limit
state are those of `attempt`. -/
def Obligations.AttemptIsTheFunctionOfTheSpec : Prop :=
  ∀ (s : State) (r : AttemptRun) (rest : List Stimulus), Inv s → s.params.enable = true → 22 ≤ s.params.tsW → s.phase = .idle →
    r.command.start = true → r.command.pinId % 2 ^ s.params.pinW ∈ s.params.validPins →
    ¬(s.lastValid = true ∧ elapsedAt s.params.tsW s.lastTs r.check.now < 2000000) →
    r.fits s.params.tsW = true → s.script = r.script ++ rest →
    ∃ t, Host.Core.run core r.script.length s = .next t ∧ t.phase = .idle ∧ t.pin = r.command.pinId % 2 ^ s.params.pinW ∧
      t.gpioDir = false ∧ t.crit = false ∧ t.script = rest ∧
      attempt s.params.tsW s.lastValid s.lastTs (r.check.now % 2 ^ s.params.tsW) (r.halves.map HalfRun.outcome) =
        (t.result, t.lastValid, t.lastTs) ∧
      (t.status ≠ .success → t.out = s.out)

/-- 40_transaction_driver.md R132, R121: a rejected attempt, from the command to the return to `IDLE`: three steps, the line not
touched, the rate-limit state and the bytes as they were. -/
def Obligations.RejectedAttemptTouchesNothing : Prop :=
  ∀ (s : State) (cmd check ret : Inputs) (o : List HalfOutcome) (rest : List Stimulus), Inv s → s.params.enable = true →
    s.phase = .idle → cmd.rst = false → check.rst = false → ret.rst = false → cmd.start = true →
    cmd.pinId ∈ s.params.validPins → cmd.pinId < 2 ^ s.params.pinW → check.now < 2 ^ s.params.tsW →
    s.lastValid = true → (check.now + (2 ^ s.params.tsW - s.lastTs)) % 2 ^ s.params.tsW < 2000000 →
    s.script = [.tick cmd, .tick check, .tick ret] ++ rest →
    ∃ t, Host.Core.run core 3 s = .next t ∧
      t = { s with pin := cmd.pinId, status := .rateLimited, script := rest, tick := s.tick + 3 } ∧
      attempt s.params.tsW s.lastValid s.lastTs check.now o = (t.result, t.lastValid, t.lastTs)
end

