-- ==== Sys2Proof/Laws/Memory.lean ====
section
/-! SUPPORT. The laws of the result buffer: a read after a write, and that every operation keeps the canonical form. -/

namespace Sys2Proof.Machine

@[simp] theorem Memory.read_nil (a : Nat) : Memory.read [] a = Memory.unlisted := rfl

/-- A byte below every listed index is not listed. -/
theorem Memory.read_below {m : Memory} {a : Nat} (h : ∀ c ∈ m, a < c.1) : Memory.read m a = Memory.unlisted := by
  induction m with
  | nil => rfl
  | cons c r ih =>
    have hc := h c (by simp)
    simp only [Memory.read]
    rw [if_neg (by omega)]
    exact ih (fun d hd => h d (by simp [hd]))

theorem Memory.wf_cons {k : Nat} {v : Byte} {r : Memory} :
    Memory.wf ((k, v) :: r) = true ↔
      k < Config.nOut ∧ v ≠ Memory.unlisted ∧ (∀ c ∈ r, k < c.1) ∧ Memory.wf r = true := by
  simp [Memory.wf, and_assoc]

/-- Every entry of a write is an entry of the old list or the written one. -/
theorem Memory.mem_write {m : Memory} {a : Nat} {v : Byte} {c : Host.Cell} (h : c ∈ Memory.write m a v) :
    c ∈ m ∨ c = (a, v) := by
  induction m with
  | nil =>
    simp only [Memory.write] at h
    split at h <;> simp_all
  | cons d r ih =>
    obtain ⟨k, u⟩ := d
    simp only [Memory.write] at h
    split_ifs at h
    · exact .inl h
    · rcases List.mem_cons.1 h with h | h
      · exact .inr h
      · exact .inl h
    · exact .inl (List.mem_cons_of_mem _ h)
    · rcases List.mem_cons.1 h with h | h
      · exact .inr h
      · exact .inl (List.mem_cons_of_mem _ h)
    · rcases List.mem_cons.1 h with h | h
      · exact .inl (h ▸ List.mem_cons_self)
      · rcases ih h with h | h
        · exact .inl (List.mem_cons_of_mem _ h)
        · exact .inr h

/-- A write inside the buffer keeps the canonical form. -/
theorem Memory.write_wf {m : Memory} {a : Nat} {v : Byte} (hm : Memory.wf m = true) (ha : a < Config.nOut) :
    Memory.wf (Memory.write m a v) = true := by
  induction m with
  | nil =>
    by_cases hv : v = Memory.unlisted <;> simp [Memory.write, Memory.wf, hv, ha]
  | cons d r ih =>
    obtain ⟨k, u⟩ := d
    obtain ⟨hk, hu, hr, hw⟩ := Memory.wf_cons.1 hm
    simp only [Memory.write]
    split_ifs with h1 hv h2 hv
    · exact hm
    · refine Memory.wf_cons.2 ⟨ha, hv, fun c hc => ?_, hm⟩
      rcases List.mem_cons.1 hc with rfl | hc
      · exact h1
      · exact lt_trans h1 (hr c hc)
    · exact hw
    · exact Memory.wf_cons.2 ⟨ha, hv, h2 ▸ hr, hw⟩
    · refine Memory.wf_cons.2 ⟨hk, hu, fun c hc => ?_, ih hw⟩
      rcases Memory.mem_write hc with hc | rfl
      · exact hr c hc
      · show k < a
        omega

/-- A read after a write to the same index gives the byte written, in a buffer in canonical form. -/
theorem Memory.read_write_same {m : Memory} {a : Nat} {v : Byte} (hm : Memory.wf m = true) :
    Memory.read (Memory.write m a v) a = v := by
  induction m with
  | nil => by_cases hv : v = Memory.unlisted <;> simp [Memory.write, Memory.read, hv]
  | cons d r ih =>
    obtain ⟨k, u⟩ := d
    obtain ⟨_, _, hr, hw⟩ := Memory.wf_cons.1 hm
    simp only [Memory.write]
    split_ifs with h1 hv h2 hv
    · rw [hv]
      refine Memory.read_below (fun c hc => ?_)
      rcases List.mem_cons.1 hc with rfl | hc
      · exact h1
      · exact lt_trans h1 (hr c hc)
    · simp [Memory.read]
    · rw [hv]
      exact Memory.read_below (h2 ▸ hr)
    · simp [Memory.read]
    · simp only [Memory.read]
      rw [if_neg (by omega)]
      exact ih hw

/-- A write leaves every other index alone. -/
theorem Memory.read_write_other {m : Memory} {a b : Nat} {v : Byte} (h : b ≠ a) :
    Memory.read (Memory.write m a v) b = Memory.read m b := by
  induction m with
  | nil => by_cases hv : v = Memory.unlisted <;> simp [Memory.write, Memory.read, hv, Ne.symm h]
  | cons d r ih =>
    obtain ⟨k, u⟩ := d
    simp only [Memory.write]
    split_ifs with h1 hv h2 hv
    · rfl
    · simp [Memory.read, Ne.symm h]
    · simp [Memory.read, ← h2, Ne.symm h]
    · simp [Memory.read, ← h2, Ne.symm h]
    · simp only [Memory.read, ih]

/-- `OUT[k] <- v` keeps the canonical form. -/
theorem State.setOut_wf {s : State} {k : Fin Config.nOut} {v : Byte} (h : Memory.wf s.out = true) :
    Memory.wf (s.setOut k v).out = true :=
  Memory.write_wf h k.isLt

/-- Five bytes laid out as a buffer are in canonical form. -/
theorem Memory.ofBytes_wf (w : BitVec 40) : Memory.wf (Memory.ofBytes w) = true := by
  unfold Memory.ofBytes
  repeat' first | exact rfl | refine Memory.write_wf ?_ (by decide)

/-- Two buffers in canonical form that read alike are equal: equal contents are equal data. -/
theorem Memory.eq_of_read {m n : Memory} (hm : Memory.wf m = true) (hn : Memory.wf n = true)
    (h : ∀ a, Memory.read m a = Memory.read n a) : m = n := by
  induction m generalizing n with
  | nil =>
    cases n with
    | nil => rfl
    | cons d r =>
      obtain ⟨k, u⟩ := d
      have := h k
      simp [Memory.read] at this
      exact absurd this.symm (Memory.wf_cons.1 hn).2.1
  | cons d r ih =>
    obtain ⟨k, u⟩ := d
    obtain ⟨_, hu, hr, hw⟩ := Memory.wf_cons.1 hm
    cases n with
    | nil =>
      have := h k
      simp [Memory.read] at this
      exact absurd this hu
    | cons e q =>
      obtain ⟨j, x⟩ := e
      obtain ⟨_, hx, hq, hv⟩ := Memory.wf_cons.1 hn
      have hkj : k = j := by
        rcases lt_trichotomy k j with hlt | heq | hgt
        · have := h k
          rw [Memory.read_below (m := (j, x) :: q) (fun c hc => by
            rcases List.mem_cons.1 hc with rfl | hc
            · exact hlt
            · exact lt_trans hlt (hq c hc))] at this
          simp [Memory.read] at this
          exact absurd this hu
        · exact heq
        · have := h j
          rw [Memory.read_below (m := (k, u) :: r) (fun c hc => by
            rcases List.mem_cons.1 hc with rfl | hc
            · exact hgt
            · exact lt_trans hgt (hr c hc))] at this
          simp [Memory.read] at this
          exact absurd this.symm hx
      subst hkj
      have hux : u = x := by
        have := h k
        simpa [Memory.read] using this
      subst hux
      have : r = q := ih hw hv (fun a => by
        by_cases ha : k = a
        · subst ha
          rw [Memory.read_below hr, Memory.read_below hq]
        · have := h a
          simpa [Memory.read, ha] using this)
      rw [this]

end Sys2Proof.Machine
end

