-- ==== Sys2Proof/Laws/State.lean ====
section
/-! SUPPORT. One lemma per field per update of the state, and one per input per update: an update changes the fields its rule
names and the inputs of the step stay what they are. -/

namespace Sys2Proof.Machine

section
variable (s : State) (p : Phase)
@[simp] theorem State.setPhase_phase : (s.setPhase p).phase = p := rfl
@[simp] theorem State.setPhase_idx : (s.setPhase p).idx = s.idx := rfl
@[simp] theorem State.setPhase_pin : (s.setPhase p).pin = s.pin := rfl
@[simp] theorem State.setPhase_t0 : (s.setPhase p).t0 = s.t0 := rfl
@[simp] theorem State.setPhase_age : (s.setPhase p).age = s.age := rfl
@[simp] theorem State.setPhase_shreg : (s.setPhase p).shreg = s.shreg := rfl
@[simp] theorem State.setPhase_rawHum : (s.setPhase p).rawHum = s.rawHum := rfl
@[simp] theorem State.setPhase_rawTemp : (s.setPhase p).rawTemp = s.rawTemp := rfl
@[simp] theorem State.setPhase_status : (s.setPhase p).status = s.status := rfl
@[simp] theorem State.setPhase_lastTs : (s.setPhase p).lastTs = s.lastTs := rfl
@[simp] theorem State.setPhase_lastValid : (s.setPhase p).lastValid = s.lastValid := rfl
@[simp] theorem State.setPhase_gpioDir : (s.setPhase p).gpioDir = s.gpioDir := rfl
@[simp] theorem State.setPhase_gpioOut : (s.setPhase p).gpioOut = s.gpioOut := rfl
@[simp] theorem State.setPhase_crit : (s.setPhase p).crit = s.crit := rfl
@[simp] theorem State.setPhase_out : (s.setPhase p).out = s.out := rfl
@[simp] theorem State.setPhase_params : (s.setPhase p).params = s.params := rfl
@[simp] theorem State.setPhase_wires : (s.setPhase p).wires = s.wires := rfl
@[simp] theorem State.setPhase_script : (s.setPhase p).script = s.script := rfl
@[simp] theorem State.setPhase_tick : (s.setPhase p).tick = s.tick := rfl
@[simp] theorem State.setPhase_inputs : (s.setPhase p).inputs = s.inputs := rfl
@[simp] theorem State.setPhase_rst : (s.setPhase p).rst = s.rst := rfl
@[simp] theorem State.setPhase_start : (s.setPhase p).start = s.start := rfl
@[simp] theorem State.setPhase_pinId : (s.setPhase p).pinId = s.pinId := rfl
@[simp] theorem State.setPhase_now : (s.setPhase p).now = s.now := rfl
@[simp] theorem State.setPhase_gpioIn : (s.setPhase p).gpioIn = s.gpioIn := rfl
@[simp] theorem State.setPhase_takesInputs : (s.setPhase p).takesInputs = s.takesInputs := rfl
@[simp] theorem State.setPhase_elapsed (u : Nat) : (s.setPhase p).elapsed u = s.elapsed u := rfl
@[simp] theorem State.setPhase_validPin (u : Nat) : (s.setPhase p).validPin u = s.validPin u := rfl
end

section
variable (s : State) (i : BitVec 8)
@[simp] theorem State.setIdx_phase : (s.setIdx i).phase = s.phase := rfl
@[simp] theorem State.setIdx_idx : (s.setIdx i).idx = i := rfl
@[simp] theorem State.setIdx_pin : (s.setIdx i).pin = s.pin := rfl
@[simp] theorem State.setIdx_t0 : (s.setIdx i).t0 = s.t0 := rfl
@[simp] theorem State.setIdx_age : (s.setIdx i).age = s.age := rfl
@[simp] theorem State.setIdx_shreg : (s.setIdx i).shreg = s.shreg := rfl
@[simp] theorem State.setIdx_rawHum : (s.setIdx i).rawHum = s.rawHum := rfl
@[simp] theorem State.setIdx_rawTemp : (s.setIdx i).rawTemp = s.rawTemp := rfl
@[simp] theorem State.setIdx_status : (s.setIdx i).status = s.status := rfl
@[simp] theorem State.setIdx_lastTs : (s.setIdx i).lastTs = s.lastTs := rfl
@[simp] theorem State.setIdx_lastValid : (s.setIdx i).lastValid = s.lastValid := rfl
@[simp] theorem State.setIdx_gpioDir : (s.setIdx i).gpioDir = s.gpioDir := rfl
@[simp] theorem State.setIdx_gpioOut : (s.setIdx i).gpioOut = s.gpioOut := rfl
@[simp] theorem State.setIdx_crit : (s.setIdx i).crit = s.crit := rfl
@[simp] theorem State.setIdx_out : (s.setIdx i).out = s.out := rfl
@[simp] theorem State.setIdx_params : (s.setIdx i).params = s.params := rfl
@[simp] theorem State.setIdx_wires : (s.setIdx i).wires = s.wires := rfl
@[simp] theorem State.setIdx_script : (s.setIdx i).script = s.script := rfl
@[simp] theorem State.setIdx_tick : (s.setIdx i).tick = s.tick := rfl
@[simp] theorem State.setIdx_inputs : (s.setIdx i).inputs = s.inputs := rfl
@[simp] theorem State.setIdx_rst : (s.setIdx i).rst = s.rst := rfl
@[simp] theorem State.setIdx_start : (s.setIdx i).start = s.start := rfl
@[simp] theorem State.setIdx_pinId : (s.setIdx i).pinId = s.pinId := rfl
@[simp] theorem State.setIdx_now : (s.setIdx i).now = s.now := rfl
@[simp] theorem State.setIdx_gpioIn : (s.setIdx i).gpioIn = s.gpioIn := rfl
@[simp] theorem State.setIdx_takesInputs : (s.setIdx i).takesInputs = s.takesInputs := rfl
@[simp] theorem State.setIdx_elapsed (u : Nat) : (s.setIdx i).elapsed u = s.elapsed u := rfl
@[simp] theorem State.setIdx_validPin (u : Nat) : (s.setIdx i).validPin u = s.validPin u := rfl
end

section
variable (s : State) (k : Nat)
@[simp] theorem State.setPin_phase : (s.setPin k).phase = s.phase := rfl
@[simp] theorem State.setPin_idx : (s.setPin k).idx = s.idx := rfl
@[simp] theorem State.setPin_pin : (s.setPin k).pin = k := rfl
@[simp] theorem State.setPin_t0 : (s.setPin k).t0 = s.t0 := rfl
@[simp] theorem State.setPin_age : (s.setPin k).age = s.age := rfl
@[simp] theorem State.setPin_shreg : (s.setPin k).shreg = s.shreg := rfl
@[simp] theorem State.setPin_rawHum : (s.setPin k).rawHum = s.rawHum := rfl
@[simp] theorem State.setPin_rawTemp : (s.setPin k).rawTemp = s.rawTemp := rfl
@[simp] theorem State.setPin_status : (s.setPin k).status = s.status := rfl
@[simp] theorem State.setPin_lastTs : (s.setPin k).lastTs = s.lastTs := rfl
@[simp] theorem State.setPin_lastValid : (s.setPin k).lastValid = s.lastValid := rfl
@[simp] theorem State.setPin_gpioDir : (s.setPin k).gpioDir = s.gpioDir := rfl
@[simp] theorem State.setPin_gpioOut : (s.setPin k).gpioOut = s.gpioOut := rfl
@[simp] theorem State.setPin_crit : (s.setPin k).crit = s.crit := rfl
@[simp] theorem State.setPin_out : (s.setPin k).out = s.out := rfl
@[simp] theorem State.setPin_params : (s.setPin k).params = s.params := rfl
@[simp] theorem State.setPin_wires : (s.setPin k).wires = s.wires := rfl
@[simp] theorem State.setPin_script : (s.setPin k).script = s.script := rfl
@[simp] theorem State.setPin_tick : (s.setPin k).tick = s.tick := rfl
@[simp] theorem State.setPin_inputs : (s.setPin k).inputs = s.inputs := rfl
@[simp] theorem State.setPin_rst : (s.setPin k).rst = s.rst := rfl
@[simp] theorem State.setPin_start : (s.setPin k).start = s.start := rfl
@[simp] theorem State.setPin_pinId : (s.setPin k).pinId = s.pinId := rfl
@[simp] theorem State.setPin_now : (s.setPin k).now = s.now := rfl
@[simp] theorem State.setPin_gpioIn : (s.setPin k).gpioIn = s.gpioIn := rfl
@[simp] theorem State.setPin_takesInputs : (s.setPin k).takesInputs = s.takesInputs := rfl
@[simp] theorem State.setPin_elapsed (u : Nat) : (s.setPin k).elapsed u = s.elapsed u := rfl
@[simp] theorem State.setPin_validPin (u : Nat) : (s.setPin k).validPin u = s.validPin u := rfl
end

section
variable (s : State) (t : Nat)
@[simp] theorem State.setT0_phase : (s.setT0 t).phase = s.phase := rfl
@[simp] theorem State.setT0_idx : (s.setT0 t).idx = s.idx := rfl
@[simp] theorem State.setT0_pin : (s.setT0 t).pin = s.pin := rfl
@[simp] theorem State.setT0_t0 : (s.setT0 t).t0 = t := rfl
@[simp] theorem State.setT0_age : (s.setT0 t).age = s.age := rfl
@[simp] theorem State.setT0_shreg : (s.setT0 t).shreg = s.shreg := rfl
@[simp] theorem State.setT0_rawHum : (s.setT0 t).rawHum = s.rawHum := rfl
@[simp] theorem State.setT0_rawTemp : (s.setT0 t).rawTemp = s.rawTemp := rfl
@[simp] theorem State.setT0_status : (s.setT0 t).status = s.status := rfl
@[simp] theorem State.setT0_lastTs : (s.setT0 t).lastTs = s.lastTs := rfl
@[simp] theorem State.setT0_lastValid : (s.setT0 t).lastValid = s.lastValid := rfl
@[simp] theorem State.setT0_gpioDir : (s.setT0 t).gpioDir = s.gpioDir := rfl
@[simp] theorem State.setT0_gpioOut : (s.setT0 t).gpioOut = s.gpioOut := rfl
@[simp] theorem State.setT0_crit : (s.setT0 t).crit = s.crit := rfl
@[simp] theorem State.setT0_out : (s.setT0 t).out = s.out := rfl
@[simp] theorem State.setT0_params : (s.setT0 t).params = s.params := rfl
@[simp] theorem State.setT0_wires : (s.setT0 t).wires = s.wires := rfl
@[simp] theorem State.setT0_script : (s.setT0 t).script = s.script := rfl
@[simp] theorem State.setT0_tick : (s.setT0 t).tick = s.tick := rfl
@[simp] theorem State.setT0_inputs : (s.setT0 t).inputs = s.inputs := rfl
@[simp] theorem State.setT0_rst : (s.setT0 t).rst = s.rst := rfl
@[simp] theorem State.setT0_start : (s.setT0 t).start = s.start := rfl
@[simp] theorem State.setT0_pinId : (s.setT0 t).pinId = s.pinId := rfl
@[simp] theorem State.setT0_now : (s.setT0 t).now = s.now := rfl
@[simp] theorem State.setT0_gpioIn : (s.setT0 t).gpioIn = s.gpioIn := rfl
@[simp] theorem State.setT0_takesInputs : (s.setT0 t).takesInputs = s.takesInputs := rfl
@[simp] theorem State.setT0_elapsed (u : Nat) : (s.setT0 t).elapsed u = s.elapsed u := rfl
@[simp] theorem State.setT0_validPin (u : Nat) : (s.setT0 t).validPin u = s.validPin u := rfl
end

section
variable (s : State) (a : BitVec 7)
@[simp] theorem State.setAge_phase : (s.setAge a).phase = s.phase := rfl
@[simp] theorem State.setAge_idx : (s.setAge a).idx = s.idx := rfl
@[simp] theorem State.setAge_pin : (s.setAge a).pin = s.pin := rfl
@[simp] theorem State.setAge_t0 : (s.setAge a).t0 = s.t0 := rfl
@[simp] theorem State.setAge_age : (s.setAge a).age = a := rfl
@[simp] theorem State.setAge_shreg : (s.setAge a).shreg = s.shreg := rfl
@[simp] theorem State.setAge_rawHum : (s.setAge a).rawHum = s.rawHum := rfl
@[simp] theorem State.setAge_rawTemp : (s.setAge a).rawTemp = s.rawTemp := rfl
@[simp] theorem State.setAge_status : (s.setAge a).status = s.status := rfl
@[simp] theorem State.setAge_lastTs : (s.setAge a).lastTs = s.lastTs := rfl
@[simp] theorem State.setAge_lastValid : (s.setAge a).lastValid = s.lastValid := rfl
@[simp] theorem State.setAge_gpioDir : (s.setAge a).gpioDir = s.gpioDir := rfl
@[simp] theorem State.setAge_gpioOut : (s.setAge a).gpioOut = s.gpioOut := rfl
@[simp] theorem State.setAge_crit : (s.setAge a).crit = s.crit := rfl
@[simp] theorem State.setAge_out : (s.setAge a).out = s.out := rfl
@[simp] theorem State.setAge_params : (s.setAge a).params = s.params := rfl
@[simp] theorem State.setAge_wires : (s.setAge a).wires = s.wires := rfl
@[simp] theorem State.setAge_script : (s.setAge a).script = s.script := rfl
@[simp] theorem State.setAge_tick : (s.setAge a).tick = s.tick := rfl
@[simp] theorem State.setAge_inputs : (s.setAge a).inputs = s.inputs := rfl
@[simp] theorem State.setAge_rst : (s.setAge a).rst = s.rst := rfl
@[simp] theorem State.setAge_start : (s.setAge a).start = s.start := rfl
@[simp] theorem State.setAge_pinId : (s.setAge a).pinId = s.pinId := rfl
@[simp] theorem State.setAge_now : (s.setAge a).now = s.now := rfl
@[simp] theorem State.setAge_gpioIn : (s.setAge a).gpioIn = s.gpioIn := rfl
@[simp] theorem State.setAge_takesInputs : (s.setAge a).takesInputs = s.takesInputs := rfl
@[simp] theorem State.setAge_elapsed (u : Nat) : (s.setAge a).elapsed u = s.elapsed u := rfl
@[simp] theorem State.setAge_validPin (u : Nat) : (s.setAge a).validPin u = s.validPin u := rfl
end

section
variable (s : State) (v : Word)
@[simp] theorem State.setShreg_phase : (s.setShreg v).phase = s.phase := rfl
@[simp] theorem State.setShreg_idx : (s.setShreg v).idx = s.idx := rfl
@[simp] theorem State.setShreg_pin : (s.setShreg v).pin = s.pin := rfl
@[simp] theorem State.setShreg_t0 : (s.setShreg v).t0 = s.t0 := rfl
@[simp] theorem State.setShreg_age : (s.setShreg v).age = s.age := rfl
@[simp] theorem State.setShreg_shreg : (s.setShreg v).shreg = v := rfl
@[simp] theorem State.setShreg_rawHum : (s.setShreg v).rawHum = s.rawHum := rfl
@[simp] theorem State.setShreg_rawTemp : (s.setShreg v).rawTemp = s.rawTemp := rfl
@[simp] theorem State.setShreg_status : (s.setShreg v).status = s.status := rfl
@[simp] theorem State.setShreg_lastTs : (s.setShreg v).lastTs = s.lastTs := rfl
@[simp] theorem State.setShreg_lastValid : (s.setShreg v).lastValid = s.lastValid := rfl
@[simp] theorem State.setShreg_gpioDir : (s.setShreg v).gpioDir = s.gpioDir := rfl
@[simp] theorem State.setShreg_gpioOut : (s.setShreg v).gpioOut = s.gpioOut := rfl
@[simp] theorem State.setShreg_crit : (s.setShreg v).crit = s.crit := rfl
@[simp] theorem State.setShreg_out : (s.setShreg v).out = s.out := rfl
@[simp] theorem State.setShreg_params : (s.setShreg v).params = s.params := rfl
@[simp] theorem State.setShreg_wires : (s.setShreg v).wires = s.wires := rfl
@[simp] theorem State.setShreg_script : (s.setShreg v).script = s.script := rfl
@[simp] theorem State.setShreg_tick : (s.setShreg v).tick = s.tick := rfl
@[simp] theorem State.setShreg_inputs : (s.setShreg v).inputs = s.inputs := rfl
@[simp] theorem State.setShreg_rst : (s.setShreg v).rst = s.rst := rfl
@[simp] theorem State.setShreg_start : (s.setShreg v).start = s.start := rfl
@[simp] theorem State.setShreg_pinId : (s.setShreg v).pinId = s.pinId := rfl
@[simp] theorem State.setShreg_now : (s.setShreg v).now = s.now := rfl
@[simp] theorem State.setShreg_gpioIn : (s.setShreg v).gpioIn = s.gpioIn := rfl
@[simp] theorem State.setShreg_takesInputs : (s.setShreg v).takesInputs = s.takesInputs := rfl
@[simp] theorem State.setShreg_elapsed (u : Nat) : (s.setShreg v).elapsed u = s.elapsed u := rfl
@[simp] theorem State.setShreg_validPin (u : Nat) : (s.setShreg v).validPin u = s.validPin u := rfl
end

section
variable (s : State) (v : Word)
@[simp] theorem State.setRawHum_phase : (s.setRawHum v).phase = s.phase := rfl
@[simp] theorem State.setRawHum_idx : (s.setRawHum v).idx = s.idx := rfl
@[simp] theorem State.setRawHum_pin : (s.setRawHum v).pin = s.pin := rfl
@[simp] theorem State.setRawHum_t0 : (s.setRawHum v).t0 = s.t0 := rfl
@[simp] theorem State.setRawHum_age : (s.setRawHum v).age = s.age := rfl
@[simp] theorem State.setRawHum_shreg : (s.setRawHum v).shreg = s.shreg := rfl
@[simp] theorem State.setRawHum_rawHum : (s.setRawHum v).rawHum = v := rfl
@[simp] theorem State.setRawHum_rawTemp : (s.setRawHum v).rawTemp = s.rawTemp := rfl
@[simp] theorem State.setRawHum_status : (s.setRawHum v).status = s.status := rfl
@[simp] theorem State.setRawHum_lastTs : (s.setRawHum v).lastTs = s.lastTs := rfl
@[simp] theorem State.setRawHum_lastValid : (s.setRawHum v).lastValid = s.lastValid := rfl
@[simp] theorem State.setRawHum_gpioDir : (s.setRawHum v).gpioDir = s.gpioDir := rfl
@[simp] theorem State.setRawHum_gpioOut : (s.setRawHum v).gpioOut = s.gpioOut := rfl
@[simp] theorem State.setRawHum_crit : (s.setRawHum v).crit = s.crit := rfl
@[simp] theorem State.setRawHum_out : (s.setRawHum v).out = s.out := rfl
@[simp] theorem State.setRawHum_params : (s.setRawHum v).params = s.params := rfl
@[simp] theorem State.setRawHum_wires : (s.setRawHum v).wires = s.wires := rfl
@[simp] theorem State.setRawHum_script : (s.setRawHum v).script = s.script := rfl
@[simp] theorem State.setRawHum_tick : (s.setRawHum v).tick = s.tick := rfl
@[simp] theorem State.setRawHum_inputs : (s.setRawHum v).inputs = s.inputs := rfl
@[simp] theorem State.setRawHum_rst : (s.setRawHum v).rst = s.rst := rfl
@[simp] theorem State.setRawHum_start : (s.setRawHum v).start = s.start := rfl
@[simp] theorem State.setRawHum_pinId : (s.setRawHum v).pinId = s.pinId := rfl
@[simp] theorem State.setRawHum_now : (s.setRawHum v).now = s.now := rfl
@[simp] theorem State.setRawHum_gpioIn : (s.setRawHum v).gpioIn = s.gpioIn := rfl
@[simp] theorem State.setRawHum_takesInputs : (s.setRawHum v).takesInputs = s.takesInputs := rfl
@[simp] theorem State.setRawHum_elapsed (u : Nat) : (s.setRawHum v).elapsed u = s.elapsed u := rfl
@[simp] theorem State.setRawHum_validPin (u : Nat) : (s.setRawHum v).validPin u = s.validPin u := rfl
end

section
variable (s : State) (v : Word)
@[simp] theorem State.setRawTemp_phase : (s.setRawTemp v).phase = s.phase := rfl
@[simp] theorem State.setRawTemp_idx : (s.setRawTemp v).idx = s.idx := rfl
@[simp] theorem State.setRawTemp_pin : (s.setRawTemp v).pin = s.pin := rfl
@[simp] theorem State.setRawTemp_t0 : (s.setRawTemp v).t0 = s.t0 := rfl
@[simp] theorem State.setRawTemp_age : (s.setRawTemp v).age = s.age := rfl
@[simp] theorem State.setRawTemp_shreg : (s.setRawTemp v).shreg = s.shreg := rfl
@[simp] theorem State.setRawTemp_rawHum : (s.setRawTemp v).rawHum = s.rawHum := rfl
@[simp] theorem State.setRawTemp_rawTemp : (s.setRawTemp v).rawTemp = v := rfl
@[simp] theorem State.setRawTemp_status : (s.setRawTemp v).status = s.status := rfl
@[simp] theorem State.setRawTemp_lastTs : (s.setRawTemp v).lastTs = s.lastTs := rfl
@[simp] theorem State.setRawTemp_lastValid : (s.setRawTemp v).lastValid = s.lastValid := rfl
@[simp] theorem State.setRawTemp_gpioDir : (s.setRawTemp v).gpioDir = s.gpioDir := rfl
@[simp] theorem State.setRawTemp_gpioOut : (s.setRawTemp v).gpioOut = s.gpioOut := rfl
@[simp] theorem State.setRawTemp_crit : (s.setRawTemp v).crit = s.crit := rfl
@[simp] theorem State.setRawTemp_out : (s.setRawTemp v).out = s.out := rfl
@[simp] theorem State.setRawTemp_params : (s.setRawTemp v).params = s.params := rfl
@[simp] theorem State.setRawTemp_wires : (s.setRawTemp v).wires = s.wires := rfl
@[simp] theorem State.setRawTemp_script : (s.setRawTemp v).script = s.script := rfl
@[simp] theorem State.setRawTemp_tick : (s.setRawTemp v).tick = s.tick := rfl
@[simp] theorem State.setRawTemp_inputs : (s.setRawTemp v).inputs = s.inputs := rfl
@[simp] theorem State.setRawTemp_rst : (s.setRawTemp v).rst = s.rst := rfl
@[simp] theorem State.setRawTemp_start : (s.setRawTemp v).start = s.start := rfl
@[simp] theorem State.setRawTemp_pinId : (s.setRawTemp v).pinId = s.pinId := rfl
@[simp] theorem State.setRawTemp_now : (s.setRawTemp v).now = s.now := rfl
@[simp] theorem State.setRawTemp_gpioIn : (s.setRawTemp v).gpioIn = s.gpioIn := rfl
@[simp] theorem State.setRawTemp_takesInputs : (s.setRawTemp v).takesInputs = s.takesInputs := rfl
@[simp] theorem State.setRawTemp_elapsed (u : Nat) : (s.setRawTemp v).elapsed u = s.elapsed u := rfl
@[simp] theorem State.setRawTemp_validPin (u : Nat) : (s.setRawTemp v).validPin u = s.validPin u := rfl
end

section
variable (s : State) (k : Status)
@[simp] theorem State.setStatus_phase : (s.setStatus k).phase = s.phase := rfl
@[simp] theorem State.setStatus_idx : (s.setStatus k).idx = s.idx := rfl
@[simp] theorem State.setStatus_pin : (s.setStatus k).pin = s.pin := rfl
@[simp] theorem State.setStatus_t0 : (s.setStatus k).t0 = s.t0 := rfl
@[simp] theorem State.setStatus_age : (s.setStatus k).age = s.age := rfl
@[simp] theorem State.setStatus_shreg : (s.setStatus k).shreg = s.shreg := rfl
@[simp] theorem State.setStatus_rawHum : (s.setStatus k).rawHum = s.rawHum := rfl
@[simp] theorem State.setStatus_rawTemp : (s.setStatus k).rawTemp = s.rawTemp := rfl
@[simp] theorem State.setStatus_status : (s.setStatus k).status = k := rfl
@[simp] theorem State.setStatus_lastTs : (s.setStatus k).lastTs = s.lastTs := rfl
@[simp] theorem State.setStatus_lastValid : (s.setStatus k).lastValid = s.lastValid := rfl
@[simp] theorem State.setStatus_gpioDir : (s.setStatus k).gpioDir = s.gpioDir := rfl
@[simp] theorem State.setStatus_gpioOut : (s.setStatus k).gpioOut = s.gpioOut := rfl
@[simp] theorem State.setStatus_crit : (s.setStatus k).crit = s.crit := rfl
@[simp] theorem State.setStatus_out : (s.setStatus k).out = s.out := rfl
@[simp] theorem State.setStatus_params : (s.setStatus k).params = s.params := rfl
@[simp] theorem State.setStatus_wires : (s.setStatus k).wires = s.wires := rfl
@[simp] theorem State.setStatus_script : (s.setStatus k).script = s.script := rfl
@[simp] theorem State.setStatus_tick : (s.setStatus k).tick = s.tick := rfl
@[simp] theorem State.setStatus_inputs : (s.setStatus k).inputs = s.inputs := rfl
@[simp] theorem State.setStatus_rst : (s.setStatus k).rst = s.rst := rfl
@[simp] theorem State.setStatus_start : (s.setStatus k).start = s.start := rfl
@[simp] theorem State.setStatus_pinId : (s.setStatus k).pinId = s.pinId := rfl
@[simp] theorem State.setStatus_now : (s.setStatus k).now = s.now := rfl
@[simp] theorem State.setStatus_gpioIn : (s.setStatus k).gpioIn = s.gpioIn := rfl
@[simp] theorem State.setStatus_takesInputs : (s.setStatus k).takesInputs = s.takesInputs := rfl
@[simp] theorem State.setStatus_elapsed (u : Nat) : (s.setStatus k).elapsed u = s.elapsed u := rfl
@[simp] theorem State.setStatus_validPin (u : Nat) : (s.setStatus k).validPin u = s.validPin u := rfl
end

section
variable (s : State) (t : Nat)
@[simp] theorem State.setLast_phase : (s.setLast t).phase = s.phase := rfl
@[simp] theorem State.setLast_idx : (s.setLast t).idx = s.idx := rfl
@[simp] theorem State.setLast_pin : (s.setLast t).pin = s.pin := rfl
@[simp] theorem State.setLast_t0 : (s.setLast t).t0 = s.t0 := rfl
@[simp] theorem State.setLast_age : (s.setLast t).age = s.age := rfl
@[simp] theorem State.setLast_shreg : (s.setLast t).shreg = s.shreg := rfl
@[simp] theorem State.setLast_rawHum : (s.setLast t).rawHum = s.rawHum := rfl
@[simp] theorem State.setLast_rawTemp : (s.setLast t).rawTemp = s.rawTemp := rfl
@[simp] theorem State.setLast_status : (s.setLast t).status = s.status := rfl
@[simp] theorem State.setLast_lastTs : (s.setLast t).lastTs = t := rfl
@[simp] theorem State.setLast_lastValid : (s.setLast t).lastValid = true := rfl
@[simp] theorem State.setLast_gpioDir : (s.setLast t).gpioDir = s.gpioDir := rfl
@[simp] theorem State.setLast_gpioOut : (s.setLast t).gpioOut = s.gpioOut := rfl
@[simp] theorem State.setLast_crit : (s.setLast t).crit = s.crit := rfl
@[simp] theorem State.setLast_out : (s.setLast t).out = s.out := rfl
@[simp] theorem State.setLast_params : (s.setLast t).params = s.params := rfl
@[simp] theorem State.setLast_wires : (s.setLast t).wires = s.wires := rfl
@[simp] theorem State.setLast_script : (s.setLast t).script = s.script := rfl
@[simp] theorem State.setLast_tick : (s.setLast t).tick = s.tick := rfl
@[simp] theorem State.setLast_inputs : (s.setLast t).inputs = s.inputs := rfl
@[simp] theorem State.setLast_rst : (s.setLast t).rst = s.rst := rfl
@[simp] theorem State.setLast_start : (s.setLast t).start = s.start := rfl
@[simp] theorem State.setLast_pinId : (s.setLast t).pinId = s.pinId := rfl
@[simp] theorem State.setLast_now : (s.setLast t).now = s.now := rfl
@[simp] theorem State.setLast_gpioIn : (s.setLast t).gpioIn = s.gpioIn := rfl
@[simp] theorem State.setLast_takesInputs : (s.setLast t).takesInputs = s.takesInputs := rfl
@[simp] theorem State.setLast_elapsed (u : Nat) : (s.setLast t).elapsed u = s.elapsed u := rfl
@[simp] theorem State.setLast_validPin (u : Nat) : (s.setLast t).validPin u = s.validPin u := rfl
end

section
variable (s : State) (d : Bool) (l : Option Level)
@[simp] theorem State.lineSet_phase : (s.lineSet d l).phase = s.phase := rfl
@[simp] theorem State.lineSet_idx : (s.lineSet d l).idx = s.idx := rfl
@[simp] theorem State.lineSet_pin : (s.lineSet d l).pin = s.pin := rfl
@[simp] theorem State.lineSet_t0 : (s.lineSet d l).t0 = s.t0 := rfl
@[simp] theorem State.lineSet_age : (s.lineSet d l).age = s.age := rfl
@[simp] theorem State.lineSet_shreg : (s.lineSet d l).shreg = s.shreg := rfl
@[simp] theorem State.lineSet_rawHum : (s.lineSet d l).rawHum = s.rawHum := rfl
@[simp] theorem State.lineSet_rawTemp : (s.lineSet d l).rawTemp = s.rawTemp := rfl
@[simp] theorem State.lineSet_status : (s.lineSet d l).status = s.status := rfl
@[simp] theorem State.lineSet_lastTs : (s.lineSet d l).lastTs = s.lastTs := rfl
@[simp] theorem State.lineSet_lastValid : (s.lineSet d l).lastValid = s.lastValid := rfl
@[simp] theorem State.lineSet_gpioDir : (s.lineSet d l).gpioDir = d := rfl
@[simp] theorem State.lineSet_gpioOut : (s.lineSet d l).gpioOut = l.getD s.gpioOut := rfl
@[simp] theorem State.lineSet_crit : (s.lineSet d l).crit = s.crit := rfl
@[simp] theorem State.lineSet_out : (s.lineSet d l).out = s.out := rfl
@[simp] theorem State.lineSet_params : (s.lineSet d l).params = s.params := rfl
@[simp] theorem State.lineSet_wires : (s.lineSet d l).wires = s.wires := rfl
@[simp] theorem State.lineSet_script : (s.lineSet d l).script = s.script := rfl
@[simp] theorem State.lineSet_tick : (s.lineSet d l).tick = s.tick := rfl
@[simp] theorem State.lineSet_inputs : (s.lineSet d l).inputs = s.inputs := rfl
@[simp] theorem State.lineSet_rst : (s.lineSet d l).rst = s.rst := rfl
@[simp] theorem State.lineSet_start : (s.lineSet d l).start = s.start := rfl
@[simp] theorem State.lineSet_pinId : (s.lineSet d l).pinId = s.pinId := rfl
@[simp] theorem State.lineSet_now : (s.lineSet d l).now = s.now := rfl
@[simp] theorem State.lineSet_gpioIn : (s.lineSet d l).gpioIn = s.gpioIn := rfl
@[simp] theorem State.lineSet_takesInputs : (s.lineSet d l).takesInputs = s.takesInputs := rfl
@[simp] theorem State.lineSet_elapsed (u : Nat) : (s.lineSet d l).elapsed u = s.elapsed u := rfl
@[simp] theorem State.lineSet_validPin (u : Nat) : (s.lineSet d l).validPin u = s.validPin u := rfl
end

section
variable (s : State) (b : Bool)
@[simp] theorem State.setCrit_phase : (s.setCrit b).phase = s.phase := rfl
@[simp] theorem State.setCrit_idx : (s.setCrit b).idx = s.idx := rfl
@[simp] theorem State.setCrit_pin : (s.setCrit b).pin = s.pin := rfl
@[simp] theorem State.setCrit_t0 : (s.setCrit b).t0 = s.t0 := rfl
@[simp] theorem State.setCrit_age : (s.setCrit b).age = s.age := rfl
@[simp] theorem State.setCrit_shreg : (s.setCrit b).shreg = s.shreg := rfl
@[simp] theorem State.setCrit_rawHum : (s.setCrit b).rawHum = s.rawHum := rfl
@[simp] theorem State.setCrit_rawTemp : (s.setCrit b).rawTemp = s.rawTemp := rfl
@[simp] theorem State.setCrit_status : (s.setCrit b).status = s.status := rfl
@[simp] theorem State.setCrit_lastTs : (s.setCrit b).lastTs = s.lastTs := rfl
@[simp] theorem State.setCrit_lastValid : (s.setCrit b).lastValid = s.lastValid := rfl
@[simp] theorem State.setCrit_gpioDir : (s.setCrit b).gpioDir = s.gpioDir := rfl
@[simp] theorem State.setCrit_gpioOut : (s.setCrit b).gpioOut = s.gpioOut := rfl
@[simp] theorem State.setCrit_crit : (s.setCrit b).crit = b := rfl
@[simp] theorem State.setCrit_out : (s.setCrit b).out = s.out := rfl
@[simp] theorem State.setCrit_params : (s.setCrit b).params = s.params := rfl
@[simp] theorem State.setCrit_wires : (s.setCrit b).wires = s.wires := rfl
@[simp] theorem State.setCrit_script : (s.setCrit b).script = s.script := rfl
@[simp] theorem State.setCrit_tick : (s.setCrit b).tick = s.tick := rfl
@[simp] theorem State.setCrit_inputs : (s.setCrit b).inputs = s.inputs := rfl
@[simp] theorem State.setCrit_rst : (s.setCrit b).rst = s.rst := rfl
@[simp] theorem State.setCrit_start : (s.setCrit b).start = s.start := rfl
@[simp] theorem State.setCrit_pinId : (s.setCrit b).pinId = s.pinId := rfl
@[simp] theorem State.setCrit_now : (s.setCrit b).now = s.now := rfl
@[simp] theorem State.setCrit_gpioIn : (s.setCrit b).gpioIn = s.gpioIn := rfl
@[simp] theorem State.setCrit_takesInputs : (s.setCrit b).takesInputs = s.takesInputs := rfl
@[simp] theorem State.setCrit_elapsed (u : Nat) : (s.setCrit b).elapsed u = s.elapsed u := rfl
@[simp] theorem State.setCrit_validPin (u : Nat) : (s.setCrit b).validPin u = s.validPin u := rfl
end

section
variable (s : State) (k : Fin Config.nOut) (v : Byte)
@[simp] theorem State.setOut_phase : (s.setOut k v).phase = s.phase := rfl
@[simp] theorem State.setOut_idx : (s.setOut k v).idx = s.idx := rfl
@[simp] theorem State.setOut_pin : (s.setOut k v).pin = s.pin := rfl
@[simp] theorem State.setOut_t0 : (s.setOut k v).t0 = s.t0 := rfl
@[simp] theorem State.setOut_age : (s.setOut k v).age = s.age := rfl
@[simp] theorem State.setOut_shreg : (s.setOut k v).shreg = s.shreg := rfl
@[simp] theorem State.setOut_rawHum : (s.setOut k v).rawHum = s.rawHum := rfl
@[simp] theorem State.setOut_rawTemp : (s.setOut k v).rawTemp = s.rawTemp := rfl
@[simp] theorem State.setOut_status : (s.setOut k v).status = s.status := rfl
@[simp] theorem State.setOut_lastTs : (s.setOut k v).lastTs = s.lastTs := rfl
@[simp] theorem State.setOut_lastValid : (s.setOut k v).lastValid = s.lastValid := rfl
@[simp] theorem State.setOut_gpioDir : (s.setOut k v).gpioDir = s.gpioDir := rfl
@[simp] theorem State.setOut_gpioOut : (s.setOut k v).gpioOut = s.gpioOut := rfl
@[simp] theorem State.setOut_crit : (s.setOut k v).crit = s.crit := rfl
@[simp] theorem State.setOut_out : (s.setOut k v).out = s.out.write k.val v := rfl
@[simp] theorem State.setOut_params : (s.setOut k v).params = s.params := rfl
@[simp] theorem State.setOut_wires : (s.setOut k v).wires = s.wires := rfl
@[simp] theorem State.setOut_script : (s.setOut k v).script = s.script := rfl
@[simp] theorem State.setOut_tick : (s.setOut k v).tick = s.tick := rfl
@[simp] theorem State.setOut_inputs : (s.setOut k v).inputs = s.inputs := rfl
@[simp] theorem State.setOut_rst : (s.setOut k v).rst = s.rst := rfl
@[simp] theorem State.setOut_start : (s.setOut k v).start = s.start := rfl
@[simp] theorem State.setOut_pinId : (s.setOut k v).pinId = s.pinId := rfl
@[simp] theorem State.setOut_now : (s.setOut k v).now = s.now := rfl
@[simp] theorem State.setOut_gpioIn : (s.setOut k v).gpioIn = s.gpioIn := rfl
@[simp] theorem State.setOut_takesInputs : (s.setOut k v).takesInputs = s.takesInputs := rfl
@[simp] theorem State.setOut_elapsed (u : Nat) : (s.setOut k v).elapsed u = s.elapsed u := rfl
@[simp] theorem State.setOut_validPin (u : Nat) : (s.setOut k v).validPin u = s.validPin u := rfl
end

section
variable (s : State) (b : BitVec 1)
@[simp] theorem State.handBit_phase : (s.handBit b).phase = s.phase := rfl
@[simp] theorem State.handBit_idx : (s.handBit b).idx = s.idx := rfl
@[simp] theorem State.handBit_pin : (s.handBit b).pin = s.pin := rfl
@[simp] theorem State.handBit_t0 : (s.handBit b).t0 = s.t0 := rfl
@[simp] theorem State.handBit_age : (s.handBit b).age = s.age := rfl
@[simp] theorem State.handBit_shreg : (s.handBit b).shreg = s.shreg := rfl
@[simp] theorem State.handBit_rawHum : (s.handBit b).rawHum = s.rawHum := rfl
@[simp] theorem State.handBit_rawTemp : (s.handBit b).rawTemp = s.rawTemp := rfl
@[simp] theorem State.handBit_status : (s.handBit b).status = s.status := rfl
@[simp] theorem State.handBit_lastTs : (s.handBit b).lastTs = s.lastTs := rfl
@[simp] theorem State.handBit_lastValid : (s.handBit b).lastValid = s.lastValid := rfl
@[simp] theorem State.handBit_gpioDir : (s.handBit b).gpioDir = s.gpioDir := rfl
@[simp] theorem State.handBit_gpioOut : (s.handBit b).gpioOut = s.gpioOut := rfl
@[simp] theorem State.handBit_crit : (s.handBit b).crit = s.crit := rfl
@[simp] theorem State.handBit_out : (s.handBit b).out = s.out := rfl
@[simp] theorem State.handBit_params : (s.handBit b).params = s.params := rfl
@[simp] theorem State.handBit_wires : (s.handBit b).wires = { s.wires with bit := b } := rfl
@[simp] theorem State.handBit_script : (s.handBit b).script = s.script := rfl
@[simp] theorem State.handBit_tick : (s.handBit b).tick = s.tick := rfl
@[simp] theorem State.handBit_inputs : (s.handBit b).inputs = s.inputs := rfl
@[simp] theorem State.handBit_rst : (s.handBit b).rst = s.rst := rfl
@[simp] theorem State.handBit_start : (s.handBit b).start = s.start := rfl
@[simp] theorem State.handBit_pinId : (s.handBit b).pinId = s.pinId := rfl
@[simp] theorem State.handBit_now : (s.handBit b).now = s.now := rfl
@[simp] theorem State.handBit_gpioIn : (s.handBit b).gpioIn = s.gpioIn := rfl
@[simp] theorem State.handBit_takesInputs : (s.handBit b).takesInputs = s.takesInputs := rfl
@[simp] theorem State.handBit_elapsed (u : Nat) : (s.handBit b).elapsed u = s.elapsed u := rfl
@[simp] theorem State.handBit_validPin (u : Nat) : (s.handBit b).validPin u = s.validPin u := rfl
end

section
variable (s : State) (u : Word) (e : Byte)
@[simp] theorem State.handExpected_phase : (s.handExpected u e).phase = s.phase := rfl
@[simp] theorem State.handExpected_idx : (s.handExpected u e).idx = s.idx := rfl
@[simp] theorem State.handExpected_pin : (s.handExpected u e).pin = s.pin := rfl
@[simp] theorem State.handExpected_t0 : (s.handExpected u e).t0 = s.t0 := rfl
@[simp] theorem State.handExpected_age : (s.handExpected u e).age = s.age := rfl
@[simp] theorem State.handExpected_shreg : (s.handExpected u e).shreg = s.shreg := rfl
@[simp] theorem State.handExpected_rawHum : (s.handExpected u e).rawHum = s.rawHum := rfl
@[simp] theorem State.handExpected_rawTemp : (s.handExpected u e).rawTemp = s.rawTemp := rfl
@[simp] theorem State.handExpected_status : (s.handExpected u e).status = s.status := rfl
@[simp] theorem State.handExpected_lastTs : (s.handExpected u e).lastTs = s.lastTs := rfl
@[simp] theorem State.handExpected_lastValid : (s.handExpected u e).lastValid = s.lastValid := rfl
@[simp] theorem State.handExpected_gpioDir : (s.handExpected u e).gpioDir = s.gpioDir := rfl
@[simp] theorem State.handExpected_gpioOut : (s.handExpected u e).gpioOut = s.gpioOut := rfl
@[simp] theorem State.handExpected_crit : (s.handExpected u e).crit = s.crit := rfl
@[simp] theorem State.handExpected_out : (s.handExpected u e).out = s.out := rfl
@[simp] theorem State.handExpected_params : (s.handExpected u e).params = s.params := rfl
@[simp] theorem State.handExpected_wires : (s.handExpected u e).wires = { s.wires with sum16 := u, expected := e } := rfl
@[simp] theorem State.handExpected_script : (s.handExpected u e).script = s.script := rfl
@[simp] theorem State.handExpected_tick : (s.handExpected u e).tick = s.tick := rfl
@[simp] theorem State.handExpected_inputs : (s.handExpected u e).inputs = s.inputs := rfl
@[simp] theorem State.handExpected_rst : (s.handExpected u e).rst = s.rst := rfl
@[simp] theorem State.handExpected_start : (s.handExpected u e).start = s.start := rfl
@[simp] theorem State.handExpected_pinId : (s.handExpected u e).pinId = s.pinId := rfl
@[simp] theorem State.handExpected_now : (s.handExpected u e).now = s.now := rfl
@[simp] theorem State.handExpected_gpioIn : (s.handExpected u e).gpioIn = s.gpioIn := rfl
@[simp] theorem State.handExpected_takesInputs : (s.handExpected u e).takesInputs = s.takesInputs := rfl
@[simp] theorem State.handExpected_elapsed (u : Nat) : (s.handExpected u e).elapsed u = s.elapsed u := rfl
@[simp] theorem State.handExpected_validPin (u : Nat) : (s.handExpected u e).validPin u = s.validPin u := rfl
end

section
variable (s : State) (r : Byte)
@[simp] theorem State.handReceived_phase : (s.handReceived r).phase = s.phase := rfl
@[simp] theorem State.handReceived_idx : (s.handReceived r).idx = s.idx := rfl
@[simp] theorem State.handReceived_pin : (s.handReceived r).pin = s.pin := rfl
@[simp] theorem State.handReceived_t0 : (s.handReceived r).t0 = s.t0 := rfl
@[simp] theorem State.handReceived_age : (s.handReceived r).age = s.age := rfl
@[simp] theorem State.handReceived_shreg : (s.handReceived r).shreg = s.shreg := rfl
@[simp] theorem State.handReceived_rawHum : (s.handReceived r).rawHum = s.rawHum := rfl
@[simp] theorem State.handReceived_rawTemp : (s.handReceived r).rawTemp = s.rawTemp := rfl
@[simp] theorem State.handReceived_status : (s.handReceived r).status = s.status := rfl
@[simp] theorem State.handReceived_lastTs : (s.handReceived r).lastTs = s.lastTs := rfl
@[simp] theorem State.handReceived_lastValid : (s.handReceived r).lastValid = s.lastValid := rfl
@[simp] theorem State.handReceived_gpioDir : (s.handReceived r).gpioDir = s.gpioDir := rfl
@[simp] theorem State.handReceived_gpioOut : (s.handReceived r).gpioOut = s.gpioOut := rfl
@[simp] theorem State.handReceived_crit : (s.handReceived r).crit = s.crit := rfl
@[simp] theorem State.handReceived_out : (s.handReceived r).out = s.out := rfl
@[simp] theorem State.handReceived_params : (s.handReceived r).params = s.params := rfl
@[simp] theorem State.handReceived_wires : (s.handReceived r).wires = { s.wires with received := r } := rfl
@[simp] theorem State.handReceived_script : (s.handReceived r).script = s.script := rfl
@[simp] theorem State.handReceived_tick : (s.handReceived r).tick = s.tick := rfl
@[simp] theorem State.handReceived_inputs : (s.handReceived r).inputs = s.inputs := rfl
@[simp] theorem State.handReceived_rst : (s.handReceived r).rst = s.rst := rfl
@[simp] theorem State.handReceived_start : (s.handReceived r).start = s.start := rfl
@[simp] theorem State.handReceived_pinId : (s.handReceived r).pinId = s.pinId := rfl
@[simp] theorem State.handReceived_now : (s.handReceived r).now = s.now := rfl
@[simp] theorem State.handReceived_gpioIn : (s.handReceived r).gpioIn = s.gpioIn := rfl
@[simp] theorem State.handReceived_takesInputs : (s.handReceived r).takesInputs = s.takesInputs := rfl
@[simp] theorem State.handReceived_elapsed (u : Nat) : (s.handReceived r).elapsed u = s.elapsed u := rfl
@[simp] theorem State.handReceived_validPin (u : Nat) : (s.handReceived r).validPin u = s.validPin u := rfl
end

section
variable (s : State) (k : Status)
@[simp] theorem State.raiseFailure_phase : (s.raiseFailure k).phase = .done := rfl
@[simp] theorem State.raiseFailure_idx : (s.raiseFailure k).idx = s.idx := rfl
@[simp] theorem State.raiseFailure_pin : (s.raiseFailure k).pin = s.pin := rfl
@[simp] theorem State.raiseFailure_t0 : (s.raiseFailure k).t0 = s.t0 := rfl
@[simp] theorem State.raiseFailure_age : (s.raiseFailure k).age = s.age := rfl
@[simp] theorem State.raiseFailure_shreg : (s.raiseFailure k).shreg = s.shreg := rfl
@[simp] theorem State.raiseFailure_rawHum : (s.raiseFailure k).rawHum = s.rawHum := rfl
@[simp] theorem State.raiseFailure_rawTemp : (s.raiseFailure k).rawTemp = s.rawTemp := rfl
@[simp] theorem State.raiseFailure_status : (s.raiseFailure k).status = k := rfl
@[simp] theorem State.raiseFailure_lastTs : (s.raiseFailure k).lastTs = s.lastTs := rfl
@[simp] theorem State.raiseFailure_lastValid : (s.raiseFailure k).lastValid = s.lastValid := rfl
@[simp] theorem State.raiseFailure_gpioDir : (s.raiseFailure k).gpioDir = s.gpioDir := rfl
@[simp] theorem State.raiseFailure_gpioOut : (s.raiseFailure k).gpioOut = s.gpioOut := rfl
@[simp] theorem State.raiseFailure_crit : (s.raiseFailure k).crit = false := rfl
@[simp] theorem State.raiseFailure_out : (s.raiseFailure k).out = s.out := rfl
@[simp] theorem State.raiseFailure_params : (s.raiseFailure k).params = s.params := rfl
@[simp] theorem State.raiseFailure_wires : (s.raiseFailure k).wires = s.wires := rfl
@[simp] theorem State.raiseFailure_script : (s.raiseFailure k).script = s.script := rfl
@[simp] theorem State.raiseFailure_tick : (s.raiseFailure k).tick = s.tick := rfl
@[simp] theorem State.raiseFailure_inputs : (s.raiseFailure k).inputs = s.inputs := rfl
@[simp] theorem State.raiseFailure_rst : (s.raiseFailure k).rst = s.rst := rfl
@[simp] theorem State.raiseFailure_start : (s.raiseFailure k).start = s.start := rfl
@[simp] theorem State.raiseFailure_pinId : (s.raiseFailure k).pinId = s.pinId := rfl
@[simp] theorem State.raiseFailure_now : (s.raiseFailure k).now = s.now := rfl
@[simp] theorem State.raiseFailure_gpioIn : (s.raiseFailure k).gpioIn = s.gpioIn := rfl
@[simp] theorem State.raiseFailure_takesInputs : (s.raiseFailure k).takesInputs = s.takesInputs := rfl
@[simp] theorem State.raiseFailure_elapsed (u : Nat) : (s.raiseFailure k).elapsed u = s.elapsed u := rfl
@[simp] theorem State.raiseFailure_validPin (u : Nat) : (s.raiseFailure k).validPin u = s.validPin u := rfl
end

section
variable (s : State)
@[simp] theorem State.returnToIdle_phase : s.returnToIdle.phase = .idle := rfl
@[simp] theorem State.returnToIdle_idx : s.returnToIdle.idx = s.idx := rfl
@[simp] theorem State.returnToIdle_pin : s.returnToIdle.pin = s.pin := rfl
@[simp] theorem State.returnToIdle_t0 : s.returnToIdle.t0 = s.t0 := rfl
@[simp] theorem State.returnToIdle_age : s.returnToIdle.age = s.age := rfl
@[simp] theorem State.returnToIdle_shreg : s.returnToIdle.shreg = s.shreg := rfl
@[simp] theorem State.returnToIdle_rawHum : s.returnToIdle.rawHum = s.rawHum := rfl
@[simp] theorem State.returnToIdle_rawTemp : s.returnToIdle.rawTemp = s.rawTemp := rfl
@[simp] theorem State.returnToIdle_status : s.returnToIdle.status = s.status := rfl
@[simp] theorem State.returnToIdle_lastTs : s.returnToIdle.lastTs = s.lastTs := rfl
@[simp] theorem State.returnToIdle_lastValid : s.returnToIdle.lastValid = s.lastValid := rfl
@[simp] theorem State.returnToIdle_gpioDir : s.returnToIdle.gpioDir = s.gpioDir := rfl
@[simp] theorem State.returnToIdle_gpioOut : s.returnToIdle.gpioOut = s.gpioOut := rfl
@[simp] theorem State.returnToIdle_crit : s.returnToIdle.crit = s.crit := rfl
@[simp] theorem State.returnToIdle_out : s.returnToIdle.out = s.out := rfl
@[simp] theorem State.returnToIdle_params : s.returnToIdle.params = s.params := rfl
@[simp] theorem State.returnToIdle_wires : s.returnToIdle.wires = s.wires := rfl
@[simp] theorem State.returnToIdle_script : s.returnToIdle.script = s.script := rfl
@[simp] theorem State.returnToIdle_tick : s.returnToIdle.tick = s.tick := rfl
@[simp] theorem State.returnToIdle_inputs : s.returnToIdle.inputs = s.inputs := rfl
@[simp] theorem State.returnToIdle_rst : s.returnToIdle.rst = s.rst := rfl
@[simp] theorem State.returnToIdle_start : s.returnToIdle.start = s.start := rfl
@[simp] theorem State.returnToIdle_pinId : s.returnToIdle.pinId = s.pinId := rfl
@[simp] theorem State.returnToIdle_now : s.returnToIdle.now = s.now := rfl
@[simp] theorem State.returnToIdle_gpioIn : s.returnToIdle.gpioIn = s.gpioIn := rfl
@[simp] theorem State.returnToIdle_takesInputs : s.returnToIdle.takesInputs = s.takesInputs := rfl
@[simp] theorem State.returnToIdle_elapsed (u : Nat) : s.returnToIdle.elapsed u = s.elapsed u := rfl
@[simp] theorem State.returnToIdle_validPin (u : Nat) : s.returnToIdle.validPin u = s.validPin u := rfl
end

section
variable (s : State)
@[simp] theorem State.advance_phase : s.advance.phase = s.phase := rfl
@[simp] theorem State.advance_idx : s.advance.idx = s.idx := rfl
@[simp] theorem State.advance_pin : s.advance.pin = s.pin := rfl
@[simp] theorem State.advance_t0 : s.advance.t0 = s.t0 := rfl
@[simp] theorem State.advance_age : s.advance.age = s.age := rfl
@[simp] theorem State.advance_shreg : s.advance.shreg = s.shreg := rfl
@[simp] theorem State.advance_rawHum : s.advance.rawHum = s.rawHum := rfl
@[simp] theorem State.advance_rawTemp : s.advance.rawTemp = s.rawTemp := rfl
@[simp] theorem State.advance_status : s.advance.status = s.status := rfl
@[simp] theorem State.advance_lastTs : s.advance.lastTs = s.lastTs := rfl
@[simp] theorem State.advance_lastValid : s.advance.lastValid = s.lastValid := rfl
@[simp] theorem State.advance_gpioDir : s.advance.gpioDir = s.gpioDir := rfl
@[simp] theorem State.advance_gpioOut : s.advance.gpioOut = s.gpioOut := rfl
@[simp] theorem State.advance_crit : s.advance.crit = s.crit := rfl
@[simp] theorem State.advance_out : s.advance.out = s.out := rfl
@[simp] theorem State.advance_params : s.advance.params = s.params := rfl
@[simp] theorem State.advance_wires : s.advance.wires = Wires.idle := rfl
@[simp] theorem State.advance_script : s.advance.script = s.script.tail := rfl
@[simp] theorem State.advance_tick : s.advance.tick = s.tick + 1 := rfl
end

end Sys2Proof.Machine
end

