-- ==== Sys2Proof/Laws/Ops.lean ====
section
/-! SUPPORT. What each shared operation does, said once: elapsed times, failure entry, reset, the running of a list of operations
and the cases of a step. -/

namespace Sys2Proof.Machine

theorem State.now_lt (s : State) : s.now < 2 ^ s.params.tsW := Nat.mod_lt _ (Nat.two_pow_pos _)

theorem State.pinId_lt (s : State) : s.pinId < 2 ^ s.params.pinW := Nat.mod_lt _ (Nat.two_pow_pos _)

theorem State.elapsed_lt (s : State) (t : Nat) : s.elapsed t < 2 ^ s.params.tsW := Nat.mod_lt _ (Nat.two_pow_pos _)

/-- The time elapsed since the current reading of the clock is 0. -/
theorem State.elapsed_now (s : State) : s.elapsed s.now = 0 := by
  have h := s.now_lt
  unfold State.elapsed elapsedAt
  rw [Nat.mod_eq_of_lt h, show s.now + (2 ^ s.params.tsW - s.now) = 2 ^ s.params.tsW by omega, Nat.mod_self]

/-- An elapsed time is the true one when the clock shows a true time that is less than one wrap later. -/
theorem State.elapsed_add {s : State} {t d : Nat} (hn : s.now = (t + d) % 2 ^ s.params.tsW) (hd : d < 2 ^ s.params.tsW) :
    s.elapsed (t % 2 ^ s.params.tsW) = d := by
  unfold State.elapsed elapsedAt
  rw [hn]
  generalize 2 ^ s.params.tsW = m at hd
  have hm : 0 < m := by omega
  have ht := Nat.mod_lt t hm
  rw [Nat.mod_mod, Nat.add_mod t d m, Nat.mod_eq_of_lt hd]
  by_cases hc : t % m + d < m
  · rw [Nat.mod_eq_of_lt hc, show t % m + d + (m - t % m) = d + m by omega, Nat.add_mod_right, Nat.mod_eq_of_lt hd]
  · have h1 : (t % m + d) % m = t % m + d - m := by
      rw [Nat.mod_eq_sub_mod (by omega), Nat.mod_eq_of_lt (by omega)]
    rw [h1, show t % m + d - m + (m - t % m) = d by omega, Nat.mod_eq_of_lt hd]

/-- Failure entry writes three elements and nothing else (60_exceptions.md R207). -/
theorem State.raiseFailure_eq (s : State) (k : Status) :
    s.raiseFailure k = { s with status := k, crit := false, phase := .done } := rfl

/-- Widening to `SHREG_W` bits is widening to a word. -/
@[simp] theorem setWidth_shregW (c : Byte) : c.setWidth Config.shregW = (c.setWidth 16 : Word) := rfl

/-- A reset leaves the elements of 10_state.md R43 at their values and the buffer in canonical form. -/
theorem State.applyReset_spec (s : State) :
    s.applyReset.phase = .idle ∧ s.applyReset.lastValid = false ∧ s.applyReset.gpioDir = false ∧
      s.applyReset.gpioOut = .low ∧ s.applyReset.crit = false ∧ s.applyReset.params = s.params ∧
      s.applyReset.script = s.script ∧ s.applyReset.tick = s.tick ∧ Memory.wf s.applyReset.out = true :=
  ⟨rfl, rfl, rfl, rfl, rfl, rfl, rfl, rfl, Memory.ofBytes_wf _⟩

@[simp] theorem runOps_nil (s : State) : runOps [] s = .next s := rfl

/-- One operation, then the rest, where it answers a next state. -/
theorem runOps_cons {i : Instr} {is : List Instr} {s t : State} (h : exec i s = .next t) :
    runOps (i :: is) s = runOps is t := by
  simp [runOps, h]

/-- Two lists of operations one after the other. -/
theorem runOps_append {is js : List Instr} {s t : State} (h : runOps is s = .next t) :
    runOps (is ++ js) s = runOps js t := by
  induction is generalizing s with
  | nil => cases h; rfl
  | cons i is ih =>
    simp only [runOps, List.cons_append] at h ⊢
    cases he : exec i s with
    | next u => rw [he] at h; exact ih h
    | fault r => cases r
    | refused r => rw [he] at h; cases h

/-- A list of operations that answers a next state is one operation and the rest. -/
theorem runOps_cons_inv {i : Instr} {is : List Instr} {s t : State} (h : runOps (i :: is) s = .next t) :
    ∃ u, exec i s = .next u ∧ runOps is u = .next t := by
  simp only [runOps] at h
  cases he : exec i s with
  | next u => rw [he] at h; exact ⟨u, rfl, h⟩
  | fault r => cases r
  | refused r => rw [he] at h; cases h

/-- A property that every operation keeps is kept by a list of operations. -/
theorem runOps_keeps {P : State → Prop} (hP : ∀ i s t, P s → exec i s = .next t → P t) :
    ∀ (is : List Instr) (s t : State), P s → runOps is s = .next t → P t
  | [], s, t, hs, h => by cases h; exact hs
  | i :: is, s, t, hs, h => by
    obtain ⟨u, hu, h⟩ := runOps_cons_inv h
    exact runOps_keeps hP is u t (hP i s u hs hu) h

theorem finish_eq_next {o : Host.Outcome State Fault Refusal} {t : State} :
    finish o = .next t ↔ ∃ u, o = .next u ∧ t = u.advance := by
  cases o with
  | next u => simp [finish, eq_comm]
  | fault r => cases r
  | refused r => simp [finish]

/-- Everything a step that answers a next state can have done: a reset, a whole frame, or the operations selected. -/
theorem step_cases {s t : State} (h : step s = .next t) :
    s.params.enable = true ∧
      ((s.takesInputs = true ∧ s.rst = true ∧ t = s.applyReset.advance) ∨
        (∃ hum temp c r u, s.script = .frame hum temp c :: r ∧ s.atLoopStart = true ∧
          exec (.frame hum temp c) s = .next u ∧ t = u.advance) ∨
        (s.takesInputs = true ∧ s.rst = false ∧ selected s ≠ [] ∧
          ∃ u, runOps (selected s) s = .next u ∧ t = u.advance)) := by
  unfold step blockStep at h
  have inputsCase : s.takesInputs = true → stepInputs s = .next t →
      (s.takesInputs = true ∧ s.rst = true ∧ t = s.applyReset.advance) ∨
        (s.takesInputs = true ∧ s.rst = false ∧ selected s ≠ [] ∧
          ∃ u, runOps (selected s) s = .next u ∧ t = u.advance) := by
    intro ht h
    unfold stepInputs at h
    split at h
    · rename_i hr
      cases h
      exact .inl ⟨ht, hr, rfl⟩
    · rename_i hr
      split at h
      · cases h
      · rename_i hne
        exact .inr ⟨ht, by simpa using hr, hne, finish_eq_next.1 h⟩
  split at h
  · rename_i he
    refine ⟨he, ?_⟩
    split at h
    · rename_i hum temp c r hs
      unfold stepFrame at h
      split at h
      · rename_i hl
        obtain ⟨u, hu, ht⟩ := finish_eq_next.1 h
        exact .inr (.inl ⟨hum, temp, c, r, u, hs, hl, hu, ht⟩)
      · cases h
    · rename_i hs
      have ht : s.takesInputs = true := by
        unfold State.takesInputs
        split
        · rename_i h' _ _ _ heq
          exact absurd heq (hs _ _ _ _)
        · rfl
      rcases inputsCase ht h with h | h
      · exact .inl h
      · exact .inr (.inr h)
  · cases h

end Sys2Proof.Machine
end

