-- ==== Sys2Proof/Laws/Fetch.lean ====
section
/-! SUPPORT. Which operations a step of each phase performs, read once from the masks of 30_encoding.md R99. -/

namespace Sys2Proof.Machine

theorem rowsOf_idle : ∀ i : BitVec 8, rowsOf (seqOf .idle i) = [.idleWait, .read] := by decide

theorem rowsOf_ratecheck : ∀ i : BitVec 8, rowsOf (seqOf .ratecheck i) = [.rateReject, .stamp, .wakeBegin] := by decide

theorem rowsOf_wake : ∀ i : BitVec 8, rowsOf (seqOf .wake i) = [.wakeHold, .lineRelease] := by decide

theorem rowsOf_release : ∀ i : BitVec 8, rowsOf (seqOf .release i) = [.releaseWait, .loopEnter, .critEnter] := by decide

theorem rowsOf_ivlStart : ∀ i : BitVec 8, rowsOf (seqOf .ivlStart i) = [.ivlStart] := by decide

theorem rowsOf_poll : ∀ i : BitVec 8,
    rowsOf (seqOf .poll i) =
      [.timeoutAbort, .pollWait, .ivlEnd] ++ (if usedIdx i then [.classify, .shiftIn] else []) ++
        (if i = Config.iSnapHum then [.snapHum] else []) ++ (if i = Config.iSnapTemp then [.snapTemp] else []) ++
        [.idxAdvance] ++ (if i = Config.iLast then [.loopExit] else []) := by decide

theorem rowsOf_validate : ∀ i : BitVec 8,
    rowsOf (seqOf .validate i) = [.csumCompute, .csumReceived, .csumFail, .assemble] := by decide

theorem rowsOf_done : ∀ i : BitVec 8, rowsOf (seqOf .done i) = [.complete] := by decide

/-- The decoder on a sequencer word, in any container it takes (log 24). -/
theorem decode_seq {nbits w : Nat} (h1 : 11 ≤ nbits) (h2 : nbits ≤ 32) (hw : w < 2 ^ 11) :
    decode nbits w = .ok (rowsOf (BitVec.ofNat 11 w)) := by
  unfold decode Config.nBits
  rw [if_neg (by omega), if_pos ⟨h1, h2⟩, if_pos hw]

/-- The decoder on a frame. -/
theorem decode_frame {w : Nat} (hw : w < 2 ^ 40) : decode 40 w = .ok [frameOf (BitVec.ofNat 40 w)] := by
  unfold decode Config.nBits
  rw [if_pos rfl, if_pos hw]

/-- A row that a step performs is one whose condition holds at its start. -/
theorem condition_of_selected {i : Instr} {s : State} (h : i ∈ selected s) : condition i s = true :=
  (List.mem_filter.1 h).2

/-- The sequencer word of a state is taken apart into the phase and the index it was made of. -/
theorem seqPhase_seqOf : ∀ (p : Phase) (i : BitVec 8), seqPhase (seqOf p i) = p ∧ seqIdx (seqOf p i) = i := by
  intro p i
  cases p <;> revert i <;> decide

end Sys2Proof.Machine
end

