-- ==== Sys2Proof/Laws/PerInstr.lean ====
section
/-! SUPPORT. Statements made per instruction, one lemma for each constructor. -/

namespace Sys2Proof.Laws.Encoded

/-- The encoding of an instruction fits its number of bits, and the match word of its row lies within its mask. -/
def Statement (i : Instr) : Prop :=
  (encode i).word < 2 ^ (encode i).nbits ∧ i.pattern &&& i.mask = i.pattern ∧ i.wf = true

theorem idleWait : Statement .idleWait := by unfold Statement; decide
theorem read : Statement .read := by unfold Statement; decide
theorem rateReject : Statement .rateReject := by unfold Statement; decide
theorem stamp : Statement .stamp := by unfold Statement; decide
theorem wakeBegin : Statement .wakeBegin := by unfold Statement; decide
theorem wakeHold : Statement .wakeHold := by unfold Statement; decide
theorem lineRelease : Statement .lineRelease := by unfold Statement; decide
theorem releaseWait : Statement .releaseWait := by unfold Statement; decide
theorem loopEnter : Statement .loopEnter := by unfold Statement; decide
theorem critEnter : Statement .critEnter := by unfold Statement; decide
theorem ivlStart : Statement .ivlStart := by unfold Statement; decide
theorem timeoutAbort : Statement .timeoutAbort := by unfold Statement; decide
theorem pollWait : Statement .pollWait := by unfold Statement; decide
theorem ivlEnd : Statement .ivlEnd := by unfold Statement; decide
theorem classify : Statement .classify := by unfold Statement; decide
theorem shiftIn : Statement .shiftIn := by unfold Statement; decide
theorem snapHum : Statement .snapHum := by unfold Statement; decide
theorem snapTemp : Statement .snapTemp := by unfold Statement; decide
theorem idxAdvance : Statement .idxAdvance := by unfold Statement; decide
theorem loopExit : Statement .loopExit := by unfold Statement; decide
theorem csumCompute : Statement .csumCompute := by unfold Statement; decide
theorem csumReceived : Statement .csumReceived := by unfold Statement; decide
theorem csumFail : Statement .csumFail := by unfold Statement; decide
theorem assemble : Statement .assemble := by unfold Statement; decide
theorem complete : Statement .complete := by unfold Statement; decide
theorem frame (h t : Word) (c : Byte) : Statement (.frame h t c) := by
  exact ⟨(h ++ t ++ c).isLt, by simp [Instr.pattern, Instr.mask], rfl⟩

end Sys2Proof.Laws.Encoded
end

