-- ==== Sys2Proof/Laws/Run.lean ====
section
/-! SUPPORT. Runs of several steps: one run after another, and the steps of the loop of the half-intervals of two lists. -/

namespace Sys2Proof.Machine

/-- A run goes on where an earlier one has ended. -/
theorem run_add {m n : Nat} {s t : State} (h : Host.Core.run core m s = .next t) :
    Host.Core.run core (m + n) s = Host.Core.run core n t := by
  induction m generalizing s with
  | zero => cases h; rw [Nat.zero_add]
  | succ m ih =>
    rw [Nat.succ_add]
    simp only [Host.Core.run] at h ⊢
    cases hs : core.step s with
    | next u => rw [hs] at h; exact ih h
    | fault r => rw [hs] at h; cases h
    | refused r => rw [hs] at h; cases h

/-- A step that answers a next state is a run of one step. -/
theorem run_one {s t : State} (h : step s = .next t) : Host.Core.run core 1 s = .next t := by
  have h' : core.step s = .next t := h
  simp only [Host.Core.run, h']

/-- A step with the inputs at the head of the script sees them, and they are gone after it. -/
theorem State.inputs_tick {s : State} {i : Inputs} {r : List Stimulus} (h : s.script = .tick i :: r) :
    s.inputs = i ∧ s.takesInputs = true ∧ s.advance.script = r := by
  simp [State.inputs, State.takesInputs, State.advance, h]

/-- The script of two lists of half-intervals, the second from the index that the first has reached. -/
theorem loopScript_append (i : BitVec 8) (rs qs : List HalfRun) :
    loopScript i (rs ++ qs) = loopScript i rs ++ loopScript (i + BitVec.ofNat 8 rs.length) qs := by
  induction rs generalizing i with
  | nil => simp [loopScript]
  | cons r rs ih =>
    have : i + 1 + BitVec.ofNat 8 rs.length = i + BitVec.ofNat 8 (rs.length + 1) := by
      rw [BitVec.ofNat_add, BitVec.add_assoc, BitVec.add_comm 1]
      rfl
    simp only [List.cons_append, loopScript, ih, this, List.append_assoc, List.length_cons]

end Sys2Proof.Machine
end

