-- ==== Sys2Proof/Tests/Slice0.lean ====
section
/-! SUPPORT. Tests of the model's own work: an ill-formed term for each check, a word written out from the spec for each row, the
worked examples of 95_test_vectors.md one step at a time, and for each statement with hypotheses a state that meets them. -/

namespace Sys2Proof.Tests

open Sys2Proof Sys2Proof.Machine Sys2Proof.Safety

/-! ### Well-formedness -/

theorem test_params_of_the_spec_are_wf : Params.wf ⟨64, 8, [4, 255], true⟩ = true := by decide
theorem test_narrow_clock_is_illformed : Params.wf ⟨21, 8, [4], true⟩ = false := by decide
theorem test_wide_pin_is_illformed : Params.wf ⟨64, 8, [256], true⟩ = false := by decide
theorem test_wide_now_is_illformed : Stimulus.wf ⟨22, 8, [], true⟩ (.tick ⟨false, false, 0, 2 ^ 22, .low⟩) = false := by decide
theorem test_wide_pin_id_is_illformed : Inputs.wf ⟨22, 8, [], true⟩ ⟨false, true, 256, 0, .low⟩ = false := by decide
theorem test_unsorted_buffer_is_illformed : Memory.wf [(1, 5), (0, 6)] = false := by decide
theorem test_repeated_index_is_illformed : Memory.wf [(1, 5), (1, 6)] = false := by decide
theorem test_unlisted_value_is_illformed : Memory.wf [(1, 0)] = false := by decide
theorem test_sixth_byte_is_illformed : Memory.wf [(5, 1)] = false := by decide

/-! ### Decoding: words written out from 30_encoding.md R99 (`PHASE` in the top three bits, then `IDX`) and R94 -/

/-- The rows a word decodes to. -/
def rows (nbits w : Nat) : List Instr :=
  match decode nbits w with
  | .ok l => l
  | .error _ => []

theorem test_decode_idleWait : Instr.idleWait ∈ rows 11 0b00000000000 := by decide
theorem test_decode_read : Instr.read ∈ rows 11 0b00010101010 := by decide
theorem test_decode_rateReject : Instr.rateReject ∈ rows 11 0b00100000000 := by decide
theorem test_decode_stamp : Instr.stamp ∈ rows 11 0b00101001111 := by decide
theorem test_decode_wakeBegin : Instr.wakeBegin ∈ rows 11 0b00111111111 := by decide
theorem test_decode_wakeHold : Instr.wakeHold ∈ rows 11 0b01000000000 := by decide
theorem test_decode_lineRelease : Instr.lineRelease ∈ rows 11 0b01000010001 := by decide
theorem test_decode_releaseWait : Instr.releaseWait ∈ rows 11 0b01100000000 := by decide
theorem test_decode_loopEnter : Instr.loopEnter ∈ rows 11 0b01101001111 := by decide
theorem test_decode_critEnter : Instr.critEnter ∈ rows 11 0b01111111111 := by decide
theorem test_decode_ivlStart : rows 11 0b10011111101 = [.ivlStart] := by decide
theorem test_decode_timeoutAbort : Instr.timeoutAbort ∈ rows 11 0b10111111101 := by decide
theorem test_decode_pollWait : Instr.pollWait ∈ rows 11 0b10111111110 := by decide
theorem test_decode_ivlEnd : Instr.ivlEnd ∈ rows 11 0b10100000000 := by decide
theorem test_decode_classify : Instr.classify ∈ rows 11 0b10100000001 := by decide
theorem test_decode_classify_not_negative : Instr.classify ∉ rows 11 0b10111111101 := by decide
theorem test_decode_shiftIn : Instr.shiftIn ∈ rows 11 0b10101001101 := by decide
theorem test_decode_shiftIn_not_even : Instr.shiftIn ∉ rows 11 0b10100000010 := by decide
theorem test_decode_snapHum : Instr.snapHum ∈ rows 11 0b10100011111 := by decide
theorem test_decode_snapTemp : Instr.snapTemp ∈ rows 11 0b10100111111 := by decide
theorem test_decode_idxAdvance : Instr.idxAdvance ∈ rows 11 0b10100000000 := by decide
theorem test_decode_loopExit : Instr.loopExit ∈ rows 11 0b10101001111 := by decide
theorem test_decode_csumCompute : Instr.csumCompute ∈ rows 11 0b11001001111 := by decide
theorem test_decode_csumReceived : Instr.csumReceived ∈ rows 11 0b11000000000 := by decide
theorem test_decode_csumFail : Instr.csumFail ∈ rows 11 0b11001001111 := by decide
theorem test_decode_assemble : Instr.assemble ∈ rows 11 0b11001001111 := by decide
theorem test_decode_complete : rows 11 0b11101001111 = [.complete] := by decide
/-- The frame of 95_test_vectors.md V1, bits in arrival order. -/
theorem test_decode_frame :
    decodeTableWord 40 0b0000001001011100000000010000010101100100 = some (.frame 0x025C 0x0105 0x64) := by decide
/-- The `match` column of R99 for the rows of one index, whose index the model takes from the constant of 00_scope.md R6. -/
theorem test_match_of_one_index_rows : Instr.pattern .snapHum = 0x51F ∧ Instr.pattern .snapTemp = 0x53F ∧
    Instr.pattern .loopExit = 0x54F := by decide
theorem test_decode_refuses_wide_word : decode 16 0x800 = .error .bitsAboveSeq := by rfl
theorem test_decode_refuses_other_width : decode 8 0 = .error .noSuchWidth := by rfl
theorem test_encode_snapHum : encode .snapHum = ⟨11, 0x51F⟩ := by decide
theorem test_encode_frame : encode (.frame 0x025C 0x8105 0xE4) = ⟨40, 0x025C8105E4⟩ := by decide

/-! ### Steps: 95_test_vectors.md -/

/-- A state whose other elements are as after reset, on a 32-bit clock, with an attempt behind it. -/
def base : State := { State.reset with params := ⟨32, 8, [4, 21], true⟩, lastValid := true }

/-- The inputs of one step without command or reset. -/
def clocked (now : Nat) (l : Level) : List Stimulus := [quiet now l]

/-- The block in a phase of a transaction, one step to come. -/
def standing (p : Phase) (i : BitVec 8) (t0 now : Nat) (l : Level) : State :=
  { base with phase := p, idx := i, t0 := t0, crit := inLoop p, gpioDir := decide (p = .wake), script := clocked now l,
              lastTs := if p = .wake then t0 else 1000 }

/-- A view of the state a step leads to. -/
def after {α : Type} (s : State) (f : State → α) : Option α :=
  match step s with
  | .next t => some (f t)
  | _ => none

/-- V8 -/
theorem test_read_latches_the_pin :
    after { State.reset with script := [.tick ⟨false, true, 4, 0, .high⟩] } (fun t => (t.phase, t.pin, t.gpioDir)) =
      some (.ratecheck, 4, false) := by decide
/-- V12 -/
theorem test_idle_wait :
    after { base with script := clocked 7 .low } (fun t => (t.phase, t.pin, t.status)) = some (.idle, 0, .success) := by decide
/-- V9 -/
theorem test_first_attempt_passes :
    after { State.reset with phase := .ratecheck, script := clocked 0 .high }
      (fun t => (t.phase, t.lastTs, t.lastValid, t.gpioDir, t.gpioOut, t.t0)) = some (.wake, 0, true, true, .low, 0) := by decide
/-- V10 -/
theorem test_rate_reject_boundary :
    after { base with phase := .ratecheck, lastTs := 5000000, script := clocked 6999999 .high }
      (fun t => (t.phase, t.status, t.lastTs, t.gpioDir)) = some (.done, .rateLimited, 5000000, false) := by decide
/-- V11 -/
theorem test_stamp_boundary :
    after { base with phase := .ratecheck, lastTs := 5000000, script := clocked 7000000 .high }
      (fun t => (t.phase, t.lastTs, t.gpioDir, t.t0)) = some (.wake, 7000000, true, 7000000) := by decide
/-- V20: the wrap of a 32-bit clock -/
theorem test_rate_reject_over_the_wrap :
    after { base with phase := .ratecheck, lastTs := 0xFFFFFF00, script := clocked 0x100 .high }
      (fun t => (t.phase, t.status)) = some (.done, .rateLimited) := by decide
/-- V21 -/
theorem test_stamp_over_the_wrap :
    after { base with phase := .ratecheck, lastTs := 0xFFFFFF00, script := clocked 0x001E8380 .high }
      (fun t => (t.phase, t.lastTs)) = some (.wake, 0x001E8380) := by decide
/-- V14 -/
theorem test_wake_hold :
    after (standing .wake 0 1234 3233 .high) (fun t => (t.phase, t.gpioDir, t.t0)) = some (.wake, true, 1234) := by decide
/-- V15 -/
theorem test_line_release :
    after (standing .wake 0 1234 3234 .high) (fun t => (t.phase, t.gpioDir, t.t0)) = some (.release, false, 3234) := by decide
/-- V13: a command in a busy phase -/
theorem test_start_ignored_while_busy :
    after { standing .wake 0 1234 3233 .high with script := [.tick ⟨false, true, 9, 3233, .high⟩] }
      (fun t => (t.phase, t.pin)) = some (.wake, 0) := by decide
/-- V17 -/
theorem test_release_wait :
    after (standing .release 0 3234 3258 .high) (fun t => (t.phase, t.t0)) = some (.release, 3234) := by decide
/-- V18 -/
theorem test_loop_enter :
    after { standing .release 0 3234 3259 .low with shreg := 0x1234 } (fun t => (t.phase, t.idx.toInt, t.crit, t.shreg)) =
      some (.ivlStart, -3, true, 0) := by decide
/-- V19 -/
theorem test_complete :
    after { base with phase := .done, status := .timeout, script := [.tick ⟨false, true, 4, 0, .low⟩] }
      (fun t => (t.phase, t.status)) = some (.idle, .timeout) := by decide
/-- V23 -/
theorem test_ivl_start :
    after (standing .ivlStart 0xFD 0 3260 .low) (fun t => (t.phase, t.t0, t.seq)) = some (.poll, 3260, 0x5FD) := by decide
/-- V24 -/
theorem test_poll_wait_at_ninety :
    after (standing .poll 0xFD 3260 3350 .high) (fun t => (t.phase, t.idx.toInt)) = some (.poll, -3) := by decide
/-- V25 -/
theorem test_timeout_at_ninety_one :
    after (standing .poll 0xFD 3260 3351 .high) (fun t => (t.phase, t.status, t.crit, t.idx.toInt)) =
      some (.done, .timeout, false, -3) := by decide
/-- V26: the deadline comes before the level -/
theorem test_timeout_before_level :
    after (standing .poll 0xFD 3260 3351 .low) (fun t => (t.phase, t.status)) = some (.done, .timeout) := by decide
/-- V27 -/
theorem test_interval_end_at_ninety :
    after (standing .poll 0xFD 3260 3350 .low) (fun t => (t.phase, t.age, t.idx.toInt, t.shreg)) =
      some (.ivlStart, 90, -2, 0) := by decide
/-- V28: odd but negative -/
theorem test_negative_index_is_not_classified :
    after (standing .poll 0xFF 3400 3480 .low) (fun t => (t.age, t.idx, t.shreg, t.seq)) = some (80, 0, 0, 0x400) := by decide
/-- V29: even -/
theorem test_even_index_is_not_classified :
    after { standing .poll 0 3500 3585 .high with shreg := 1 } (fun t => (t.age, t.idx, t.shreg)) = some (85, 1, 1) := by decide
/-- V3, at 30 and at 31 -/
theorem test_thirty_is_zero :
    after (standing .poll 1 5000 5030 .low) (fun t => (t.shreg, t.age, t.idx, t.phase)) = some (0, 30, 2, .ivlStart) := by decide
theorem test_thirty_one_is_one :
    after (standing .poll 1 5000 5031 .low) (fun t => (t.shreg, t.age, t.idx, t.phase)) = some (1, 31, 2, .ivlStart) := by decide
/-- V32: the old bit 15 is lost -/
theorem test_shift_drops_the_top_bit :
    after { standing .poll 5 0 70 .low with shreg := 0x8001 } (fun t => (t.shreg, t.idx)) = some (0x0003, 6) := by decide
/-- V33 -/
theorem test_snap_hum :
    after { standing .poll 31 0 28 .low with shreg := 0x012E } (fun t => (t.shreg, t.rawHum, t.idx, t.phase)) =
      some (0x025C, 0x025C, 32, .ivlStart) := by decide
/-- V35 -/
theorem test_snap_temp :
    after { standing .poll 63 0 70 .low with shreg := 0x8082 } (fun t => (t.shreg, t.rawTemp, t.idx)) =
      some (0x0000, 0x0105, 64) := by decide
/-- V36 -/
theorem test_loop_exit :
    after { standing .poll 79 0 28 .low with shreg := 0x0032 } (fun t => (t.shreg, t.crit, t.phase, t.idx)) =
      some (0x0064, false, .validate, 79) := by decide

/-- The block at its VALIDATE step. -/
def validating (h t sh : Word) : State := { base with phase := .validate, idx := 79, rawHum := h, rawTemp := t, shreg := sh,
                                                      script := clocked 0 .high }

/-- V47: the sign bit goes through unchanged -/
theorem test_assemble :
    after (validating 0x025C 0x8105 0x00E4) (fun t => (t.phase, t.status, t.ports.outBytes)) =
      some (.done, .success, 0x025C8105E4) := by decide
/-- V50: the 16-bit sum wraps -/
theorem test_assemble_wrapping_sum :
    after (validating 0xFFFF 0xFFFF 0x00FC) (fun t => (t.phase, t.status, t.ports.outBytes)) =
      some (.done, .success, 0xFFFFFFFFFC) := by decide
/-- V46 -/
theorem test_csum_fail :
    after (validating 0x025C 0x0105 0x0065) (fun t => (t.phase, t.status, t.out)) =
      some (.done, .checksumError, []) := by decide
/-- 42_checksum_assembler.md R180, its example and its corner case (b) -/
theorem test_csum_compute : sum16Of 0x025C 0x0105 = 0x0364 ∧ sum16Of 0xFFFF 0xFFFF = 0x01FC := by decide
/-- 42_checksum_assembler.md R181, its example -/
theorem test_csum_received :
    (match exec .csumReceived (validating 0 0 0x0064) with | .next t => some t.wires.received | _ => none) = some 0x64 := by decide
/-- V1 at the interval level: the frame taken whole -/
theorem test_frame_lands :
    after { standing .ivlStart 0xFD 0 0 .high with script := [.frame 0x025C 0x0105 0x64] }
      (fun t => (t.phase, t.rawHum, t.rawTemp, t.shreg, t.crit, t.idx)) =
      some (.validate, 0x025C, 0x0105, 0x0064, false, 79) := by decide
/-- V56 -/
theorem test_reset_in_the_loop :
    after { standing .poll 40 0 0 .high with script := [.tick ⟨true, true, 4, 0, .high⟩] }
      (fun t => (t.phase, t.crit, t.gpioDir, t.gpioOut, t.lastValid)) = some (.idle, false, false, .low, false) := by decide
/-- V7 and V40 at the interval level, V1 with `X` at index 0 (V44) -/
theorem test_decode_all_short :
    validateBits (decodeOutcomes (List.replicate 83 (.ended 28))) = .success 0 0 0 0 0 := by decide
theorem test_decode_all_ninety :
    validateBits (decodeOutcomes (List.replicate 83 (.ended 90))) = .checksumError := by decide
theorem test_decode_missing_edge :
    validateBits (decodeOutcomes (List.replicate 3 (.ended 80) ++ [.never])) = .timeout := by decide
/-- The source's examples of 42_checksum_assembler.md R188 -/
theorem test_reading : humidityTenths 0x025C = 604 ∧ temperatureTenths 0x0105 = 261 ∧ temperatureTenths 0x8105 = -261 := by decide
/-- A word of the table runs as the first instruction after reset -/
theorem test_fetch_snapHum :
    after (State.reset.withFetchWord 16 0x51F) (fun t => (t.phase, t.idx)) = some (.ivlStart, 32) := by decide
theorem test_fetch_frame :
    after (State.reset.withFetchWord 40 0x025C010564) (fun t => (t.phase, t.rawHum, t.rawTemp, t.shreg)) =
      some (.validate, 0x025C, 0x0105, 0x64) := by decide

/-! ### Witnesses: for each statement with hypotheses, named after it, concrete values that meet all of them together, clause by
clause at the boundaries where clauses meet -/

/-- A step with a command. -/
def commanded (p : Phase) (pin : Nat) : State := { base with phase := p, script := [.tick ⟨false, true, pin, 0, .low⟩] }

/-- A step with `rst`, in the middle of the loop. -/
def resetting : State := { standing .poll 40 0 0 .high with script := [.tick ⟨true, true, 4, 0, .high⟩] }

/-- A rate check at a time. -/
def checking (now : Nat) : State := { base with phase := .ratecheck, lastTs := 5000000, script := clocked now .high }

/-- A whole frame in the script, with the block at an index of its loop. -/
def framed (i : BitVec 8) : State := { standing .ivlStart i 0 0 .high with script := [.frame 1 2 3] }

/-- Two polls, 5 microseconds apart. -/
def twoPolls : State := { standing .poll 0xFD 0 0 .high with script := [quiet 88 .high, quiet 93 .high] }

/-- The pulse with seven steps to come, each 2000 microseconds after the one before. -/
def sevenSteps : State :=
  { standing .wake 0 0 0 .high with script := (List.range 7).map (fun k => quiet (2000 * (k + 1)) .high) }

/-- 83 half-intervals that all end after 40 microseconds. -/
def evenRuns : List HalfRun :=
  (List.range 83).map (fun j => ⟨100 * j, [], 40, otherLevel (waitLevel (BitVec.ofNat 8 (j + 253)))⟩)

/-- A half-interval that does not end in time. -/
def badRun : HalfRun := ⟨300, [90], 91, .low⟩

/-- The loop about to read its half-intervals. -/
def loopStart (rs : List HalfRun) : State :=
  { standing .ivlStart 0xFD 0 0 .high with script := loopScript 0xFD rs ++ clocked 0 .low }

/-- The inputs of a quiet step. -/
def calm (now : Nat) : Inputs := ⟨false, false, 0, now, .low⟩

/-- The inputs of a command. -/
def command : Inputs := ⟨false, true, 21, 0, .low⟩

/-- An attempt accepted exactly 2 seconds after the last one, with a hold at the last microsecond of the pulse and a wait at the
last of the release. -/
def attemptRun (halves : List HalfRun) (closing : List Inputs) : AttemptRun where
  command := command
  check := calm 2001000
  holds := [calm 2001000, calm 2002999]
  release := calm 2003000
  waits := [calm 2003024]
  enter := calm 2003025
  halves := halves
  closing := closing

/-- A loop that ends in time, then VALIDATE and DONE. -/
def fullRun : AttemptRun := attemptRun evenRuns [calm 0, calm 0]

/-- A loop whose third half-interval does not end in time, then DONE. -/
def lateRun : AttemptRun := attemptRun (evenRuns.take 2 ++ [badRun]) [calm 0]

/-- The block about to take the steps of an attempt. -/
def attemptStart (r : AttemptRun) : State := { base with lastTs := 1000, script := r.script ++ [] }

/-- A command whose rate check comes one microsecond too early. -/
def rejectedStart : State :=
  { base with lastTs := 1000, script := [.tick command, .tick (calm 2000999), .tick (calm 0)] ++ [] }

theorem inv_poll_ends : Inv (standing .poll 31 0 28 .low) := by constructor <;> decide
theorem inv_poll_late : Inv (standing .poll 0xFD 3260 3351 .low) := by constructor <;> decide
theorem inv_wake : Inv (standing .wake 0 1234 3234 .high) := by constructor <;> decide
theorem inv_idle : Inv (commanded .idle 21) := by constructor <;> decide
theorem inv_checking_early : Inv (checking 6999999) := by constructor <;> decide
theorem inv_checking_late : Inv (checking 7000000) := by constructor <;> decide
theorem inv_validating_right : Inv (validating 0x025C 0x0105 0x0064) := by constructor <;> decide
theorem inv_validating_wrong : Inv (validating 0x025C 0x0105 0x0065) := by constructor <;> decide
theorem inv_framed : Inv (framed 0xFD) := by constructor <;> decide
theorem inv_twoPolls : Inv twoPolls := by constructor <;> decide
theorem inv_sevenSteps : Inv sevenSteps := by constructor <;> decide
theorem inv_fullRun : Inv (attemptStart fullRun) := by constructor <;> decide
theorem inv_lateRun : Inv (attemptStart lateRun) := by constructor <;> decide
theorem inv_rejectedStart : Inv rejectedStart := by constructor <;> decide

/-- A step that answers a next state. -/
theorem answers {s : State} (h : (after s (fun t => t)).isSome = true) : ∃ t, step s = .next t := by
  unfold after at h
  split at h
  · exact ⟨_, ‹_›⟩
  · cases h

theorem witness_ResetForcesTheStatedValues :
    resetting.params.enable = true ∧ resetting.takesInputs = true ∧ resetting.rst = true := by decide
theorem witness_ResetEndsATransactionUnreported :
    resetting.takesInputs = true ∧ resetting.rst = true ∧
      ∃ t, step resetting = .next t ∧ ({ checking 0 with lastValid := false } : State).lastValid = t.lastValid ∧
        ({ checking 0 with lastValid := false } : State).phase = .ratecheck :=
  ⟨by decide, by decide, _, rfl, rfl, rfl⟩
theorem witness_IdleStepWaits :
    ({ base with script := clocked 0 .low } : State).phase = .idle ∧
      ({ base with script := clocked 0 .low } : State).start = false := by decide
theorem witness_IdleStepAccepts :
    (commanded .idle 21).phase = .idle ∧ (commanded .idle 21).start = true ∧
      (commanded .idle 21).pinId ∈ (commanded .idle 21).params.validPins := by decide
theorem witness_IdleStepRefuses :
    (commanded .idle 5).phase = .idle ∧ (commanded .idle 5).start = true ∧
      (commanded .idle 5).pinId ∉ (commanded .idle 5).params.validPins ∧ (commanded .idle 5).ordinary = true := by decide
theorem witness_BusyBlockIgnoresStartAndPin :
    (commanded .wake 9).phase ≠ .idle ∧ (commanded .wake 9).script = .tick ⟨false, true, 9, 0, .low⟩ :: [] := by decide
theorem witness_LineIsReadByPollStepsOnly :
    (commanded .validate 9).phase ≠ .poll ∧ (commanded .validate 9).script = .tick ⟨false, true, 9, 0, .low⟩ :: [] := by decide
theorem witness_TooEarlyAttemptIsRateLimited_early :
    Inv (checking 6999999) ∧ (checking 6999999).phase = .ratecheck ∧ (checking 6999999).lastValid = true ∧
      (checking 6999999).elapsed (checking 6999999).lastTs < 2000000 := ⟨inv_checking_early, by decide⟩
theorem witness_TooEarlyAttemptIsRateLimited_late :
    Inv (checking 7000000) ∧ (checking 7000000).phase = .ratecheck ∧
      ¬((checking 7000000).lastValid = true ∧ (checking 7000000).elapsed (checking 7000000).lastTs < 2000000) :=
  ⟨inv_checking_late, by decide⟩
theorem witness_AcceptedAttemptIsStampedAndDrivesLow :
    (checking 7000000).phase = .ratecheck ∧
      ¬((checking 7000000).lastValid = true ∧ (checking 7000000).elapsed (checking 7000000).lastTs < 2000000) := by decide
theorem witness_WakePulseHolds :
    (standing .wake 0 1234 3233 .high).phase = .wake ∧ (standing .wake 0 1234 3233 .high).elapsed 1234 < 2000 := by decide
theorem witness_WakePulseReleases :
    (standing .wake 0 1234 3234 .high).phase = .wake ∧ 2000 ≤ (standing .wake 0 1234 3234 .high).elapsed 1234 := by decide
theorem witness_ReleaseWaitWaits :
    (standing .release 0 3234 3258 .high).phase = .release ∧ (standing .release 0 3234 3258 .high).elapsed 3234 < 25 := by decide
theorem witness_ReleaseWaitEnds :
    (standing .release 0 3234 3259 .high).phase = .release ∧ 25 ≤ (standing .release 0 3234 3259 .high).elapsed 3234 := by decide
theorem witness_DoneLastsOneStep : (standing .done 79 0 0 .high).phase = .done := by decide
theorem witness_HalfIntervalStartRecordsTheClock : (standing .ivlStart 0xFD 0 0 .high).phase = .ivlStart := by decide
theorem witness_WaitLevelFollowsParity : (0xFD#8).toInt % 2 ≠ 0 ∧ (0xFE#8).toInt % 2 = 0 := by decide
theorem witness_PollWaitsAtTheWaitLevel :
    (standing .poll 0xFD 3260 3350 .high).phase = .poll ∧ (standing .poll 0xFD 3260 3350 .high).elapsed 3260 ≤ 90 ∧
      (standing .poll 0xFD 3260 3350 .high).gpioIn = waitLevel 0xFD := by decide
theorem witness_LatePollTimesOutWhateverTheLevel :
    (standing .poll 0xFD 3260 3351 .low).phase = .poll ∧ 90 < (standing .poll 0xFD 3260 3351 .low).elapsed 3260 := by decide
theorem witness_IntervalEndMeasuresAndClassifies :
    (standing .poll 1 0 90 .low).elapsed 0 ≤ 90 ∧ 30 < (standing .poll 1 0 31 .low).elapsed 0 ∧
      ¬30 < (standing .poll 1 0 30 .low).elapsed 0 := by decide
theorem witness_LoopAdvancesOrExits : (0x7E#8).toInt < 127 ∧ (0xFF#8).toInt < 127 := by decide
theorem witness_IntervalEndSelectsByIndex :
    (standing .poll 31 0 90 .low).phase = .poll ∧ (standing .poll 31 0 90 .low).elapsed 0 ≤ 90 ∧
      (standing .poll 31 0 90 .low).gpioIn ≠ waitLevel 31 := by decide
theorem witness_IntervalEndStepAsAWhole :
    (standing .poll 79 0 90 .low).ordinary = true ∧ (standing .poll 79 0 90 .low).phase = .poll ∧
      (standing .poll 79 0 90 .low).elapsed 0 ≤ 90 ∧ (standing .poll 79 0 90 .low).gpioIn ≠ waitLevel 79 := by decide
theorem witness_BitSymbolCode_widths : (90 : Nat) < 91 ∧ (90 : Nat) ≤ 90 ∧ 0 ≤ (1#8).toInt ∧ (1#8).toInt % 2 = 1 ∧
    (0xFF#8).toInt < 0 ∧ (0#8).toInt % 2 = 0 := by decide
theorem witness_BitSymbolCodeIsTheOneShiftedIn :
    (standing .poll 1 0 31 .low).ordinary = true ∧ (standing .poll 1 0 31 .low).phase = .poll ∧
      (standing .poll 1 0 31 .low).gpioIn ≠ waitLevel 1 ∧
      symbolOf 1 (some ((standing .poll 1 0 31 .low).elapsed 0)) = .bit 1 ∧ (1#8).toInt ≠ 63 ∧
      ∃ t, step (standing .poll 1 0 31 .low) = .next t :=
  ⟨by decide, by decide, by decide, by decide, by decide, answers (by decide)⟩
theorem witness_WrongChecksumDiscardsTheReading :
    Inv (validating 0x025C 0x0105 0x0065) ∧ (validating 0x025C 0x0105 0x0065).phase = .validate ∧
      (0x025C + 0x025C / 256 + 0x0105 + 0x0105 / 256) % 256 ≠ 0x0065 % 256 ∧
      (validating 0x025C 0x0105 0x0065).ordinary = true := ⟨inv_validating_wrong, by decide⟩
theorem witness_AssembleWritesTheFiveBytes :
    Memory.wf (validating 0x025C 0x0105 0x0064).out = true ∧ Memory.wf (Memory.ofBytes 0x025C010564) = true := by decide
theorem witness_RightChecksumDeliversTheFrame :
    Inv (validating 0x025C 0x0105 0x0064) ∧ (validating 0x025C 0x0105 0x0064).ordinary = true ∧
      (validating 0x025C 0x0105 0x0064).phase = .validate ∧
      (0x025C + 0x025C / 256 + 0x0105 + 0x0105 / 256) % 256 = 0x0064 % 256 := ⟨inv_validating_right, by decide⟩
theorem witness_OneBitErrorIsAlwaysCaught : expectedOf 0x025C 0x0105 = 0x64 ∧
    frameOf ((0x025C#16 ++ 0x0105#16 ++ 0x64#8) ^^^ BitVec.twoPow 40 39) = .frame 0x825C 0x0105 0x64 ∧
    frameOf ((0x025C#16 ++ 0x0105#16 ++ 0x64#8) ^^^ BitVec.twoPow 40 0) = .frame 0x025C 0x0105 0x65 := by decide
theorem witness_FrameFieldsAreSumsOfTheirBits : frameOf 0x025C010564 = .frame 0x025C 0x0105 0x64 := by decide
theorem witness_DecoderGivesTheRowsOfTheTable : 2 ^ 11 ≤ 0x800 ∧ 2 ^ 40 ≤ 0x10000000000 := by decide
theorem witness_DecodeOfEncodeGivesTheInstruction : Instr.wf .snapTemp = true ∧ 0xFFFFFFFFFF < 2 ^ 40 := by decide
theorem witness_StepPerformsTheDecodedOperations :
    (standing .wake 0 1234 3234 .high).ordinary = true ∧ selected (standing .wake 0 1234 3234 .high) = [.lineRelease] ∧
      selected (standing .wake 0 1234 3234 .high) ≠ [] := by decide
theorem witness_StepPerformsTheDecodedOperations_frame :
    (framed 0xFD).params.enable = true ∧ (framed 0xFD).script = .frame 1 2 3 :: [] ∧ (framed 0xFD).phase = .ivlStart ∧
      (framed 0xFD).idx.toInt = -3 := by decide
theorem witness_StepStopsByName : ({ base with params := ⟨64, 8, [4], false⟩ } : State).params.enable = false := by decide
theorem witness_StepStopsByName_frame :
    (framed 0xFE).params.enable = true ∧ (framed 0xFE).script = .frame 1 2 3 :: [] ∧
      ¬((framed 0xFE).phase = .ivlStart ∧ (framed 0xFE).idx.toInt = -3) := by decide
theorem witness_EveryStepHasExactlyOneSuccessor : pinUsable (commanded .idle 21) = true ∧
    (commanded .idle 21).ordinary = true ∧ pinUsable (commanded .idle 5) = false := by decide
theorem witness_SequencerFollowsItsTable_ratecheck :
    Inv (checking 6999999) ∧ (checking 6999999).ordinary = true ∧ (checking 6999999).phase = .ratecheck ∧
      ∃ t, step (checking 6999999) = .next t ∧ t.phase = .done :=
  ⟨inv_checking_early, by decide, rfl, _, rfl, rfl⟩
theorem witness_SequencerFollowsItsTable_poll :
    Inv (standing .poll 0xFD 3260 3351 .low) ∧ (standing .poll 0xFD 3260 3351 .low).ordinary = true ∧
      ∃ t, step (standing .poll 0xFD 3260 3351 .low) = .next t ∧ t.phase = .done :=
  ⟨inv_poll_late, by decide, _, rfl, rfl⟩
theorem witness_SequencerFollowsItsTable_validate :
    Inv (validating 0x025C 0x0105 0x0065) ∧ (validating 0x025C 0x0105 0x0065).ordinary = true ∧
      ∃ t, step (validating 0x025C 0x0105 0x0065) = .next t ∧ t.status ≠ .success :=
  ⟨inv_validating_wrong, by decide, _, rfl, by decide⟩
theorem witness_StepEqualsTheFlatMachine :
    Inv (standing .poll 31 0 28 .low) ∧ (standing .poll 31 0 28 .low).ordinary = true ∧
      ¬((standing .poll 31 0 28 .low).phase = .idle ∧ (standing .poll 31 0 28 .low).start = true ∧
        (standing .poll 31 0 28 .low).pinId ∉ (standing .poll 31 0 28 .low).params.validPins) :=
  ⟨inv_poll_ends, by decide⟩
theorem witness_StepKeepsTheInvariants :
    Inv (standing .poll 31 0 28 .low) ∧ ∃ t, step (standing .poll 31 0 28 .low) = .next t :=
  ⟨inv_poll_ends, answers (by decide)⟩
theorem witness_StepKeepsTheInvariants_frame : Inv (framed 0xFD) ∧ ∃ t, step (framed 0xFD) = .next t :=
  ⟨inv_framed, _, rfl⟩
theorem witness_OperationsKeepWhatTheyDoNotWrite :
    (∃ t, exec .shiftIn (standing .poll 31 0 28 .low) = .next t) ∧ ∀ h u c, Instr.shiftIn ≠ .frame h u c :=
  ⟨⟨_, rfl⟩, by intros; exact Instr.noConfusion⟩
theorem witness_OperationsKeepWhatTheyDoNotWrite_phase :
    (∃ t, exec .stamp (checking 7000000) = .next t) ∧ (∀ h u c, Instr.stamp ≠ .frame h u c) ∧
      Instr.stamp ∉ [Instr.read, .rateReject, .wakeBegin, .lineRelease, .loopEnter, .ivlStart, .timeoutAbort, .idxAdvance, .loopExit,
        .csumFail, .assemble, .complete] :=
  ⟨⟨_, rfl⟩, by intros; exact Instr.noConfusion, by decide⟩
theorem witness_RateLimitStateIsWrittenByAcceptanceOnly :
    (∃ t, step (checking 7000000) = .next t) ∧ ¬((checking 7000000).takesInputs = true ∧ (checking 7000000).rst = true) :=
  ⟨answers (by decide), by decide⟩
theorem witness_ResultIsWrittenWholeOrNotAtAll :
    Inv (validating 0x025C 0x0105 0x0064) ∧ (∃ t, step (validating 0x025C 0x0105 0x0064) = .next t) ∧
      ¬((validating 0x025C 0x0105 0x0064).takesInputs = true ∧ (validating 0x025C 0x0105 0x0064).rst = true) :=
  ⟨inv_validating_right, answers (by decide), by decide⟩
theorem witness_StatusIsWrittenOnEnteringDoneOnly :
    (∃ t, step (standing .poll 0xFD 3260 3351 .low) = .next t ∧ t.status ≠ (standing .poll 0xFD 3260 3351 .low).status) ∧
      ¬((standing .poll 0xFD 3260 3351 .low).takesInputs = true ∧ (standing .poll 0xFD 3260 3351 .low).rst = true) :=
  ⟨⟨_, rfl, by decide⟩, by decide⟩
theorem witness_LineAndCriticalSectionFollowThePhase :
    Inv (standing .poll 0xFD 3260 3351 .low) ∧ ∃ t, step (standing .poll 0xFD 3260 3351 .low) = .next t ∧
      (standing .poll 0xFD 3260 3351 .low).ports.crit = true ∧ t.ports.crit = false := ⟨inv_poll_late, _, rfl, rfl, rfl⟩
theorem witness_ResultBufferIsFiveBytes :
    Memory.wf (Memory.ofBytes 0x025C010564) = true ∧ (4 : Nat) < 5 ∧ (5 : Nat) ≤ 5 ∧ (0 : Nat) ≠ 1 ∧ (2 : Nat) ≠ 1 ∧
      (3 : Nat) ≠ 4 := by decide
theorem witness_ElapsedIsTrueTimeWithinOneWrap :
    clockRuns 0xFFFFFF00 0x100000100 { base with script := clocked 0x100 .high } = true ∧
      0x100000100 - 0xFFFFFF00 < 2 ^ ({ base with script := clocked 0x100 .high } : State).params.tsW := by decide
theorem witness_HalfIntervalLastsNinetyAndOneGap :
    Inv twoPolls ∧ twoPolls.ordinary = true ∧ twoPolls.phase = .poll ∧
      ∃ t, step twoPolls = .next t ∧ t.phase = .poll ∧ gapKept 5 twoPolls.now t = true ∧ 90 + 5 < 2 ^ twoPolls.params.tsW :=
  ⟨inv_twoPolls, by decide, rfl, _, rfl, rfl, by decide, by decide⟩
theorem witness_EveryTransactionEndsIfTimePasses_step :
    Inv (standing .wake 0 1234 3234 .high) ∧ (standing .wake 0 1234 3234 .high).ordinary = true ∧
      (standing .wake 0 1234 3234 .high).phase ≠ .idle ∧ Inv twoPolls ∧ twoPolls.ordinary = true ∧ twoPolls.phase ≠ .idle :=
  ⟨inv_wake, by decide, by decide, inv_twoPolls, by decide, by decide⟩
theorem witness_EveryTransactionEndsIfTimePasses :
    Inv twoPolls ∧ twoPolls.params.enable = true ∧ 22 ≤ twoPolls.params.tsW ∧ twoPolls.phase ≠ .idle ∧
      (∀ k, (calm k).rst = false) ∧ (∀ k, (calm k).now ≤ (calm (k + 1)).now) ∧
      (∀ k, (calm (k + 1)).now + 2000 ≤ (calm k).now + 2 ^ twoPolls.params.tsW) ∧ ∀ bound, ∃ k, bound ≤ (calm k).now :=
  ⟨inv_twoPolls, by decide, by decide, by decide, fun _ => rfl, fun k => Nat.le_succ k,
    fun k => by show k + 1 + 2000 ≤ k + 2 ^ 32; omega, fun b => ⟨b, Nat.le_refl b⟩⟩
theorem witness_SevenSpacedStepsEndATransaction_step :
    Inv (standing .wake 0 1234 3234 .high) ∧ (standing .wake 0 1234 3234 .high).ordinary = true ∧
      (standing .wake 0 1234 3234 .high).phase ≠ .idle ∧ 2000 ≤ (standing .wake 0 1234 3234 .high).elapsed 1234 :=
  ⟨inv_wake, by decide⟩
theorem witness_SevenSpacedStepsEndATransaction :
    Inv sevenSteps ∧ sevenSteps.params.enable = true ∧ 22 ≤ sevenSteps.params.tsW ∧ sevenSteps.phase ≠ .idle ∧
      (∀ k, k < 7 → 2000 * (k + 1) < 2 ^ sevenSteps.params.tsW) ∧ sevenSteps.t0 + 2000 ≤ 2000 * (0 + 1) ∧
      (∀ k, k < 6 → 2000 * (k + 1) + 2000 ≤ 2000 * (k + 1 + 1)) ∧
      sevenSteps.script = (List.range 7).map (fun k => quiet (2000 * (k + 1)) .high) :=
  ⟨inv_sevenSteps, by decide, by decide, by decide, by decide, by decide, by decide, rfl⟩
theorem witness_DecodeLoopReadsTheFrame :
    (loopStart evenRuns).params.enable = true ∧ 22 ≤ (loopStart evenRuns).params.tsW ∧ (loopStart evenRuns).phase = .ivlStart ∧
      (loopStart evenRuns).idx.toInt = -3 ∧ evenRuns.length = 83 ∧
      loopFits (loopStart evenRuns).params.tsW (loopStart evenRuns).idx evenRuns = true ∧ (∀ r ∈ evenRuns, r.last ≤ 90) ∧
      (loopStart evenRuns).script = loopScript (loopStart evenRuns).idx evenRuns ++ clocked 0 .low :=
  ⟨by decide, by decide, by decide, by decide, by decide, by decide, by decide, rfl⟩
theorem witness_MissingEdgeAbortsTheLoop :
    (loopStart (evenRuns.take 2 ++ [badRun])).params.enable = true ∧
      22 ≤ (loopStart (evenRuns.take 2 ++ [badRun])).params.tsW ∧
      (loopStart (evenRuns.take 2 ++ [badRun])).phase = .ivlStart ∧
      (loopStart (evenRuns.take 2 ++ [badRun])).idx.toInt = -3 ∧ (evenRuns.take 2).length < 83 ∧
      loopFits 32 0xFD#8 (evenRuns.take 2 ++ [badRun]) = true ∧ (∀ r ∈ evenRuns.take 2, r.last ≤ 90) ∧ 90 < badRun.last ∧
      (loopStart (evenRuns.take 2 ++ [badRun])).script = loopScript 0xFD (evenRuns.take 2 ++ [badRun]) ++ clocked 0 .low :=
  ⟨by decide, by decide, by decide, by decide, by decide, by decide, by decide, by decide, rfl⟩
theorem witness_AttemptIsTheFunctionOfTheSpec :
    Inv (attemptStart fullRun) ∧ (attemptStart fullRun).params.enable = true ∧ 22 ≤ (attemptStart fullRun).params.tsW ∧
      (attemptStart fullRun).phase = .idle ∧ fullRun.command.start = true ∧
      fullRun.command.pinId % 2 ^ (attemptStart fullRun).params.pinW ∈ (attemptStart fullRun).params.validPins ∧
      ¬((attemptStart fullRun).lastValid = true ∧
        elapsedAt (attemptStart fullRun).params.tsW (attemptStart fullRun).lastTs fullRun.check.now < 2000000) ∧
      fullRun.fits (attemptStart fullRun).params.tsW = true ∧ (attemptStart fullRun).script = fullRun.script ++ [] :=
  ⟨inv_fullRun, by decide, by decide, by decide, by decide, by decide, by decide, by decide, rfl⟩
theorem witness_AttemptIsTheFunctionOfTheSpec_timeout :
    Inv (attemptStart lateRun) ∧ (attemptStart lateRun).params.enable = true ∧ 22 ≤ (attemptStart lateRun).params.tsW ∧
      (attemptStart lateRun).phase = .idle ∧ lateRun.command.start = true ∧
      lateRun.command.pinId % 2 ^ (attemptStart lateRun).params.pinW ∈ (attemptStart lateRun).params.validPins ∧
      ¬((attemptStart lateRun).lastValid = true ∧
        elapsedAt (attemptStart lateRun).params.tsW (attemptStart lateRun).lastTs lateRun.check.now < 2000000) ∧
      lateRun.fits (attemptStart lateRun).params.tsW = true ∧ (attemptStart lateRun).script = lateRun.script ++ [] :=
  ⟨inv_lateRun, by decide, by decide, by decide, by decide, by decide, by decide, by decide, rfl⟩
theorem witness_RejectedAttemptTouchesNothing :
    Inv rejectedStart ∧ rejectedStart.params.enable = true ∧ rejectedStart.phase = .idle ∧ command.rst = false ∧
      (calm 0).rst = false ∧ command.start = true ∧ command.pinId ∈ rejectedStart.params.validPins ∧
      command.pinId < 2 ^ rejectedStart.params.pinW ∧ (calm 2000999).now < 2 ^ rejectedStart.params.tsW ∧
      rejectedStart.lastValid = true ∧
      ((calm 2000999).now + (2 ^ rejectedStart.params.tsW - rejectedStart.lastTs)) % 2 ^ rejectedStart.params.tsW < 2000000 ∧
      rejectedStart.script = [.tick command, .tick (calm 2000999), .tick (calm 0)] ++ [] :=
  ⟨inv_rejectedStart, by decide, by decide, by decide, by decide, by decide, by decide, by decide, by decide, by decide, by decide,
    rfl⟩

end Sys2Proof.Tests
end

section
/-! The rules of one step: which of its branches is taken, said once for each branch, and the statements of 00_scope.md about the
step and the clock that follow from them. -/

namespace Sys2Proof.Machine

theorem State.ordinary_iff {s : State} :
    s.ordinary = true ↔ s.params.enable = true ∧ s.takesInputs = true ∧ s.rst = false := by
  simp [State.ordinary, and_assoc]

/-- `IDX = I_FIRST` read as a signed number. -/
theorem eq_iFirst_iff {i : BitVec 8} : i = Config.iFirst ↔ i.toInt = -3 :=
  BitVec.toInt_inj.symm

theorem State.atLoopStart_iff {s : State} : s.atLoopStart = true ↔ s.phase = .ivlStart ∧ s.idx.toInt = -3 := by
  simp [State.atLoopStart, eq_iFirst_iff]

theorem step_of_disabled {s : State} (he : s.params.enable = false) : step s = .refused .blockAbsent := by
  simp [step, blockStep, he]

theorem step_of_frame {s : State} {h t : Word} {c : Byte} {r : List Stimulus} (he : s.params.enable = true)
    (hs : s.script = .frame h t c :: r) : step s = stepFrame h t c s := by
  simp [step, blockStep, he, hs]

theorem step_of_takesInputs {s : State} (he : s.params.enable = true) (ht : s.takesInputs = true) :
    step s = stepInputs s := by
  rcases hs : s.script with _ | ⟨i | ⟨h, t, c⟩, r⟩
  case nil => simp [step, blockStep, he, hs]
  case cons.tick => simp [step, blockStep, he, hs]
  case cons.frame => simp [State.takesInputs, hs] at ht

/-- With `rst = 0` the selected operations are performed, and then the step passes on (30_encoding.md R99). -/
theorem stepInputs_of_selected {s : State} (hr : s.rst = false) (hne : selected s ≠ []) :
    stepInputs s = finish (runOps (selected s) s) := by
  unfold stepInputs
  rw [if_neg (by simp [hr])]
  split
  next hnil => exact absurd hnil hne
  next => rfl

theorem step_of_selected {s : State} (ho : s.ordinary = true) (hne : selected s ≠ []) :
    step s = finish (runOps (selected s) s) := by
  obtain ⟨he, ht, hr⟩ := State.ordinary_iff.1 ho
  rw [step_of_takesInputs he ht, stepInputs_of_selected hr hne]

theorem runOps_singleton (i : Instr) (s : State) : runOps [i] s = exec i s := by
  cases he : exec i s <;> simp [runOps, he]

/-- The rows that the decoder reads from the sequencer word of a state. -/
theorem decode_stateSeq (s : State) : decode 11 s.seq.toNat = .ok (rowsOf s.seq) := by
  rw [decode_seq (le_refl 11) (by decide) s.seq.isLt, BitVec.ofNat_toNat, BitVec.setWidth_eq]

end Sys2Proof.Machine

open Sys2Proof Sys2Proof.Machine Sys2Proof.Safety

/-- Settles O47: the true time now is the recorded one and less than a wrap more. -/
theorem elapsedIsTrueTimeWithinOneWrap : Obligations.ElapsedIsTrueTimeWithinOneWrap := by
  intro s recorded trueNow hclock hwrap
  obtain ⟨hle, hnow⟩ : recorded ≤ trueNow ∧ s.now = trueNow % 2 ^ s.params.tsW := by simpa [clockRuns] using hclock
  exact State.elapsed_add (by rw [hnow, Nat.add_sub_cancel' hle]) hwrap

/-- Settles O32, by the rule of the step's branch in each clause. -/
theorem stepPerformsTheDecodedOperations : Obligations.StepPerformsTheDecodedOperations := by
  refine ⟨fun s => step_of_selected, fun s => ⟨rowsOf s.seq, decode_stateSeq s, rfl⟩, ?oneRow, ?wholeFrame⟩
  case oneRow =>
    intro s i ho hsel
    rw [step_of_selected ho (by simp [hsel]), hsel, runOps_singleton]
  case wholeFrame =>
    intro s h t c r he hs hp hi
    rw [step_of_frame he hs, stepFrame, if_pos (State.atLoopStart_iff.2 ⟨hp, hi⟩)]

/-- Settles O33: the two branches of a step that stop it before any rule of the block. -/
theorem stepStopsByName : Obligations.StepStopsByName := by
  refine ⟨fun s => step_of_disabled, ?_⟩
  intro s h t c r he hs haway
  rw [step_of_frame he hs, stepFrame, if_neg (mt State.atLoopStart_iff.1 haway)]

end

section
/-! Which operations an ordinary step selects in each phase, as comparisons of numbers, and what those of a poll that ends a
half-interval come to, as one record (30_encoding.md R99, 41_edge_timing_decoder.md R161). -/

namespace Sys2Proof.Machine

open Sys2Proof

/-! ### The conditions of 30_encoding.md R99 as comparisons of numbers -/

section
variable (s : State)

theorem State.soon_eq : s.soon = decide (s.lastValid = true ∧ s.elapsed s.lastTs < 2000000) := by
  rw [Bool.decide_and, Bool.decide_eq_true]
  rfl

theorem State.wakeOver_eq : s.wakeOver = decide (2000 ≤ s.elapsed s.t0) := rfl

theorem State.releaseOver_eq : s.releaseOver = decide (25 ≤ s.elapsed s.t0) := rfl

theorem State.tooLong_eq : s.tooLong = decide (90 < s.elapsed s.t0) := rfl

theorem State.validPin_eq (k : Nat) : s.validPin k = decide (k ∈ s.params.validPins) := by
  simp [State.validPin]

end

theorem hiByte_toNat (v : Word) : (hiByte v).toNat = v.toNat / 256 := by
  have hv := v.isLt
  rw [hiByte, BitVec.extractLsb'_toNat, Nat.shiftRight_eq_div_pow]
  omega

theorem loByte_toNat (v : Word) : (loByte v).toNat = v.toNat % 256 := by
  simp [loByte]

/-- The expected checksum as a number (42_checksum_assembler.md R180). -/
theorem expectedOf_toNat (h t : Word) :
    (expectedOf h t).toNat = (h.toNat + h.toNat / 256 + t.toNat + t.toNat / 256) % 256 := by
  rw [expectedOf, loByte_toNat]
  simp only [sum16Of, BitVec.toNat_add, BitVec.toNat_ushiftRight, Nat.shiftRight_eq_div_pow]
  omega

theorem State.checksumAgrees_iff {s : State} :
    s.checksumAgrees = true ↔
      (s.rawHum.toNat + s.rawHum.toNat / 256 + s.rawTemp.toNat + s.rawTemp.toNat / 256) % 256 = s.shreg.toNat % 256 := by
  rw [State.checksumAgrees, decide_eq_true_iff, ← BitVec.toNat_inj, expectedOf_toNat, State.received, loByte_toNat]

/-- The indices whose width is used, as signed numbers (30_encoding.md R92). -/
theorem usedIdx_iff : ∀ i : BitVec 8, usedIdx i = true ↔ 0 ≤ i.toInt ∧ i.toInt % 2 = 1 := by decide

/-! ### The operations that a step selects, phase by phase -/

section
variable {s : State}

theorem selected_idleWait (hp : s.phase = .idle) (hs : s.start = false) : selected s = [.idleWait] := by
  simp [selected, State.seq, hp, rowsOf_idle, condition, hs]

theorem selected_read (hp : s.phase = .idle) (hs : s.start = true) (hv : s.pinId ∈ s.params.validPins) :
    selected s = [.read] := by
  simp [selected, State.seq, hp, rowsOf_idle, condition, hs, State.validPin_eq, hv]

theorem selected_invalidPin (hp : s.phase = .idle) (hs : s.start = true) (hv : s.pinId ∉ s.params.validPins) :
    selected s = [] := by
  simp [selected, State.seq, hp, rowsOf_idle, condition, hs, State.validPin_eq, hv]

theorem selected_rateReject (hp : s.phase = .ratecheck) (hc : s.lastValid = true ∧ s.elapsed s.lastTs < 2000000) :
    selected s = [.rateReject] := by
  simp [selected, State.seq, hp, rowsOf_ratecheck, condition, State.soon_eq, hc]

theorem selected_stamp (hp : s.phase = .ratecheck) (hc : ¬(s.lastValid = true ∧ s.elapsed s.lastTs < 2000000)) :
    selected s = [.stamp, .wakeBegin] := by
  have hsoon : s.soon = false := by rw [State.soon_eq, decide_eq_false hc]
  simp [selected, State.seq, hp, rowsOf_ratecheck, condition, hsoon]

theorem selected_wakeHold (hp : s.phase = .wake) (he : s.elapsed s.t0 < 2000) : selected s = [.wakeHold] := by
  simp [selected, State.seq, hp, rowsOf_wake, condition, State.wakeOver_eq, he]

theorem selected_lineRelease (hp : s.phase = .wake) (he : 2000 ≤ s.elapsed s.t0) : selected s = [.lineRelease] := by
  simp [selected, State.seq, hp, rowsOf_wake, condition, State.wakeOver_eq, he]

theorem selected_releaseWait (hp : s.phase = .release) (he : s.elapsed s.t0 < 25) : selected s = [.releaseWait] := by
  simp [selected, State.seq, hp, rowsOf_release, condition, State.releaseOver_eq, he]

theorem selected_loopEnter (hp : s.phase = .release) (he : 25 ≤ s.elapsed s.t0) :
    selected s = [.loopEnter, .critEnter] := by
  simp [selected, State.seq, hp, rowsOf_release, condition, State.releaseOver_eq, he]

theorem selected_ivlStart (hp : s.phase = .ivlStart) : selected s = [.ivlStart] := by
  simp [selected, State.seq, hp, rowsOf_ivlStart, condition]

/-- What remains of the rows of a poll when the half-interval does not end in it: none of the rows of an end. -/
theorem selected_poll_of_not_ends (hp : s.phase = .poll) (he : s.ends = false) :
    selected s = [.timeoutAbort, .pollWait].filter (fun i => condition i s) := by
  rw [selected, State.seq, hp, rowsOf_poll]
  split_ifs <;> simp [List.filter_cons, condition, he]

theorem selected_timeoutAbort (hp : s.phase = .poll) (he : 90 < s.elapsed s.t0) : selected s = [.timeoutAbort] := by
  rw [selected_poll_of_not_ends hp (by simp [State.ends, State.tooLong_eq, he])]
  simp [condition, State.tooLong_eq, he]

theorem selected_pollWait (hp : s.phase = .poll) (he : s.elapsed s.t0 ≤ 90) (hl : s.gpioIn = waitLevel s.idx) :
    selected s = [.pollWait] := by
  have hw : s.atWaitLevel = true := decide_eq_true hl
  rw [selected_poll_of_not_ends hp (by simp [State.ends, hw])]
  simp [condition, State.tooLong_eq, he, hw]

/-- The operations of a poll that ends a half-interval (41_edge_timing_decoder.md R161). -/
theorem selected_of_endsHere (h : endsHere s) :
    selected s =
      [.ivlEnd] ++ (if usedIdx s.idx then [.classify, .shiftIn] else []) ++ (if s.idx = 31 then [.snapHum] else []) ++
        (if s.idx = 63 then [.snapTemp] else []) ++ (if s.idx = 79 then [.loopExit] else [.idxAdvance]) := by
  obtain ⟨hp, he, hl⟩ := h
  have hlong : s.tooLong = false := by simp [State.tooLong_eq, he]
  have hwait : s.atWaitLevel = false := decide_eq_false hl
  have hends : s.ends = true := by simp [State.ends, hlong, hwait]
  have hlast : Config.iLast = 79 := rfl
  rw [selected, State.seq, hp, rowsOf_poll, hlast, show Config.iSnapHum = 31 from rfl, show Config.iSnapTemp = 63 from rfl]
  by_cases hi : s.idx = 79#8 <;> simp [apply_ite (List.filter _), condition, hlong, hends, hwait, hlast, hi]

theorem selected_csumFail (hp : s.phase = .validate) (hc : ¬s.checksumAgrees = true) :
    selected s = [.csumCompute, .csumReceived, .csumFail] := by
  simp [selected, State.seq, hp, rowsOf_validate, condition, hc]

theorem selected_assemble (hp : s.phase = .validate) (hc : s.checksumAgrees = true) :
    selected s = [.csumCompute, .csumReceived, .assemble] := by
  simp [selected, State.seq, hp, rowsOf_validate, condition, hc]

theorem selected_complete (hp : s.phase = .done) : selected s = [.complete] := by
  simp [selected, State.seq, hp, rowsOf_done, condition]

end

/-! ### The operations of a poll that ends a half-interval, one after another (41_edge_timing_decoder.md R161) -/

section
variable (s : State)

theorem shiftIn_bitOfAge (v : Word) (e : Nat) :
    v.extractLsb' 0 15 ++ bitOfAge e = BitVec.ofNat 16 (2 * v.toNat + if 30 < e then 1 else 0) := by
  apply BitVec.eq_of_toNat_eq
  have hb : (bitOfAge e).toNat = if 30 < e then 1 else 0 := by
    simp only [bitOfAge, Config.tThresh]
    split_ifs with h <;> simp [h]
  rw [BitVec.toNat_append, ← Nat.shiftLeft_add_eq_or_of_lt (bitOfAge e).isLt, Nat.shiftLeft_eq, hb,
    BitVec.extractLsb'_toNat, BitVec.toNat_ofNat]
  simp only [Nat.shiftRight_zero]
  omega

/-- CLASSIFY and SHIFT_IN, at the indices that have them. -/
theorem runOps_shift :
    ∃ w, runOps (if usedIdx s.idx then [.classify, .shiftIn] else []) s =
      .next { s with shreg := shiftedAtEnd s, wires := w } := by
  by_cases hu : usedIdx s.idx = true
  · rw [if_pos hu, shiftedAtEnd, if_pos ((usedIdx_iff _).1 hu), ← shiftIn_bitOfAge]
    exact ⟨_, rfl⟩
  · rw [if_neg hu, shiftedAtEnd, if_neg (mt (usedIdx_iff _).2 hu)]
    exact ⟨_, rfl⟩

theorem runOps_snapHum {i : BitVec 8} (hi : s.idx = i) :
    runOps (if i = 31 then [.snapHum] else []) s =
      .next { s with rawHum := if s.idx = 31 then s.shreg else s.rawHum } := by
  subst hi
  split_ifs <;> rfl

theorem runOps_snapTemp {i : BitVec 8} (hi : s.idx = i) :
    runOps (if i = 63 then [.snapTemp] else []) s =
      .next { s with
        rawTemp := if s.idx = 63 then s.shreg else s.rawTemp
        shreg := if s.idx = 63 then 0 else s.shreg } := by
  subst hi
  split_ifs <;> rfl

theorem runOps_advanceOrExit {i : BitVec 8} (hi : s.idx = i) :
    runOps (if i = 79 then [.loopExit] else [.idxAdvance]) s =
      .next { s with
        crit := if s.idx = 79 then false else s.crit
        idx := if s.idx = 79 then s.idx else s.idx + 1
        phase := if s.idx = 79 then .validate else .ivlStart } := by
  subst hi
  split_ifs <;> rfl

/-- The registers after a poll that ends a half-interval (41_edge_timing_decoder.md R161). -/
def endedHalf : State :=
  { s with
    age := BitVec.ofNat 7 (s.elapsed s.t0)
    rawHum := if s.idx = 31 then shiftedAtEnd s else s.rawHum
    rawTemp := if s.idx = 63 then shiftedAtEnd s else s.rawTemp
    shreg := if s.idx = 63 then 0 else shiftedAtEnd s
    crit := if s.idx = 79 then false else s.crit
    idx := if s.idx = 79 then s.idx else s.idx + 1
    phase := if s.idx = 79 then .validate else .ivlStart }

variable {s} in
/-- The selected operations leave a wire besides; the passage to the next step clears it. -/
theorem runOps_of_endsHere (h : endsHere s) :
    ∃ w, runOps (selected s) s = .next { endedHalf s with wires := w } := by
  obtain ⟨w, hw⟩ := runOps_shift (s.setAge (BitVec.ofNat 7 (s.elapsed s.t0)))
  refine ⟨w, ?_⟩
  rw [selected_of_endsHere h, List.append_assoc, List.append_assoc, List.append_assoc,
    runOps_append (t := s.setAge (BitVec.ofNat 7 (s.elapsed s.t0))) rfl]
  refine (runOps_append hw).trans ((runOps_append (runOps_snapHum _ (by rfl))).trans ?_)
  exact (runOps_append (runOps_snapTemp _ (by rfl))).trans (runOps_advanceOrExit _ rfl)

end

end Sys2Proof.Machine
end

section
/-! The result buffer after the five writes of ASSEMBLE, and the port that shows it (20_memory.md R64, R65, 10_state.md R37). -/

namespace Sys2Proof.Machine

open Sys2Proof

/-- A read after a write to a buffer in canonical form. -/
theorem Memory.read_write {m : Memory} (hm : Memory.wf m = true) (a b : Nat) (v : Byte) :
    Memory.read (Memory.write m a v) b = if b = a then v else Memory.read m b := by
  split_ifs with h
  · rw [h, Memory.read_write_same hm]
  · exact Memory.read_write_other h

/-- A buffer in canonical form lists nothing above its last index. -/
theorem Memory.read_of_nOut_le {m : Memory} (hm : Memory.wf m = true) {a : Nat} (ha : Config.nOut ≤ a) :
    Memory.read m a = Memory.unlisted := by
  induction m with
  | nil => rfl
  | cons c r ih =>
    obtain ⟨k, u⟩ := c
    obtain ⟨hk, -, -, hw⟩ := Memory.wf_cons.1 hm
    rw [Memory.read, if_neg (by omega), ih hw]

/-- What ASSEMBLE makes of the buffer (42_checksum_assembler.md R183): the bytes of the two fields and the checksum. -/
def Memory.writeFrame (m : Memory) (h t : Word) (c : Byte) : Memory :=
  ((((m.write 0 (hiByte h)).write 1 (loByte h)).write 2 (hiByte t)).write 3 (loByte t)).write 4 c

theorem execAssemble_eq (s : State) :
    execAssemble s = .next { s with
      out := s.out.writeFrame s.rawHum s.rawTemp s.wires.received
      status := .success
      phase := .done } := by
  simp only [execAssemble, State.setOut, State.setStatus, State.setPhase, Memory.writeFrame]
  rfl

section
variable {m : Memory} (hm : Memory.wf m = true) (h t : Word) (c : Byte)
include hm

theorem Memory.writeFrame_wf : Memory.wf (m.writeFrame h t c) = true := by
  unfold Memory.writeFrame
  iterate 5 refine Memory.write_wf ?_ (by decide)
  exact hm

theorem Memory.read_writeFrame (a : Nat) :
    Memory.read (m.writeFrame h t c) a =
      if a = 4 then c else if a = 3 then loByte t else if a = 2 then hiByte t else if a = 1 then loByte h
      else if a = 0 then hiByte h else Memory.read m a := by
  have h0 := Memory.write_wf (a := 0) (v := hiByte h) hm (by decide)
  have h1 := Memory.write_wf (a := 1) (v := loByte h) h0 (by decide)
  have h2 := Memory.write_wf (a := 2) (v := hiByte t) h1 (by decide)
  have h3 := Memory.write_wf (a := 3) (v := loByte t) h2 (by decide)
  rw [Memory.writeFrame, Memory.read_write h3, Memory.read_write h2, Memory.read_write h1, Memory.read_write h0,
    Memory.read_write hm]

/-- The bytes one by one. -/
theorem Memory.bytes_writeFrame :
    Memory.read (m.writeFrame h t c) 0 = hiByte h ∧ Memory.read (m.writeFrame h t c) 1 = loByte h ∧
      Memory.read (m.writeFrame h t c) 2 = hiByte t ∧ Memory.read (m.writeFrame h t c) 3 = loByte t ∧
      Memory.read (m.writeFrame h t c) 4 = c := by
  simp [Memory.read_writeFrame hm]

end

/-- A concatenation as a number. -/
theorem toNat_append_eq_add {m n : Nat} (x : BitVec m) (y : BitVec n) : (x ++ y).toNat = x.toNat * 2 ^ n + y.toNat := by
  rw [BitVec.toNat_append, ← Nat.shiftLeft_add_eq_or_of_lt y.isLt, Nat.shiftLeft_eq]

/-- The port `out_bytes` as a number (10_state.md R37). -/
theorem outBytes_toNat (m : Memory) :
    (outBytes m).toNat =
      (Memory.read m 0).toNat * 2 ^ 32 + (Memory.read m 1).toNat * 2 ^ 24 + (Memory.read m 2).toNat * 2 ^ 16 +
        (Memory.read m 3).toNat * 2 ^ 8 + (Memory.read m 4).toNat := by
  simp only [outBytes, toNat_append_eq_add]
  omega

/-- After the writes of ASSEMBLE the port shows the 40 bits of the frame as a number. -/
theorem outBytes_writeFrame_toNat {m : Memory} (hm : Memory.wf m = true) (h t : Word) (c : Byte) :
    (outBytes (m.writeFrame h t c)).toNat = h.toNat * 2 ^ 24 + t.toNat * 2 ^ 8 + c.toNat := by
  obtain ⟨h0, h1, h2, h3, h4⟩ := Memory.bytes_writeFrame hm h t c
  rw [outBytes_toNat, h0, h1, h2, h3, h4, hiByte_toNat, loByte_toNat, hiByte_toNat, loByte_toNat]
  omega

/-- From any buffer in canonical form ASSEMBLE makes the one buffer that holds the frame (20_memory.md R65). -/
theorem Memory.writeFrame_eq_ofBytes {m : Memory} (hm : Memory.wf m = true) (h t : Word) (c : Byte) :
    m.writeFrame h t c = Memory.ofBytes (h ++ t ++ c) := by
  have hof : Memory.ofBytes (h ++ t ++ c) = Memory.writeFrame [] h t c := by
    simp (disch := decide) only [Memory.ofBytes, BitVec.extractLsb'_append_eq_of_le,
      BitVec.extractLsb'_append_eq_of_add_le, BitVec.extractLsb'_eq_self]
    rfl
  rw [hof]
  refine Memory.eq_of_read (Memory.writeFrame_wf hm h t c) (Memory.writeFrame_wf rfl h t c) (fun a => ?_)
  rw [Memory.read_writeFrame hm, Memory.read_writeFrame rfl]
  split_ifs
  case neg => exact Memory.read_of_nOut_le hm (show 5 ≤ a by omega)
  all_goals rfl

end Sys2Proof.Machine
end

section
/-! The moves of the sequencer (10_state.md R23): every ordinary step makes one of them, and each is one record. -/

namespace Sys2Proof.Machine

open Sys2Proof

/-- The move that an ordinary step from `s` makes, with its condition: a row of the table of 10_state.md R23 and what the rules of
files 40, 41 and 42 write on it. No invariant is used: failure entry clears `CRIT` (60_exceptions.md R207). -/
inductive Move (s : State) : State → Prop where
  | idleWait (hp : s.phase = .idle) (hs : s.start = false) : Move s s
  | read (hp : s.phase = .idle) (hs : s.start = true) (hv : s.pinId ∈ s.params.validPins) :
      Move s { s with pin := s.pinId, phase := .ratecheck }
  | reject (hp : s.phase = .ratecheck) (hc : s.lastValid = true ∧ s.elapsed s.lastTs < 2000000) :
      Move s { s with status := .rateLimited, crit := false, phase := .done }
  | accept (hp : s.phase = .ratecheck) (hc : ¬(s.lastValid = true ∧ s.elapsed s.lastTs < 2000000)) :
      Move s { s with lastTs := s.now, lastValid := true, gpioOut := .low, gpioDir := true, t0 := s.now, phase := .wake }
  | wakeHold (hp : s.phase = .wake) (he : s.elapsed s.t0 < 2000) : Move s s
  | lineRelease (hp : s.phase = .wake) (he : 2000 ≤ s.elapsed s.t0) :
      Move s { s with gpioDir := false, t0 := s.now, phase := .release }
  | releaseWait (hp : s.phase = .release) (he : s.elapsed s.t0 < 25) : Move s s
  | loopEnter (hp : s.phase = .release) (he : 25 ≤ s.elapsed s.t0) :
      Move s { s with idx := -3, crit := true, shreg := 0, phase := .ivlStart }
  | ivlStart (hp : s.phase = .ivlStart) : Move s { s with t0 := s.now, phase := .poll }
  | timeout (hp : s.phase = .poll) (he : 90 < s.elapsed s.t0) :
      Move s { s with status := .timeout, crit := false, phase := .done }
  | pollWait (hp : s.phase = .poll) (he : s.elapsed s.t0 ≤ 90) (hl : s.gpioIn = waitLevel s.idx) : Move s s
  | advance (he : endsHere s) (hi : s.idx ≠ 79) :
      Move s { s with
        age := BitVec.ofNat 7 (s.elapsed s.t0)
        rawHum := if s.idx = 31 then shiftedAtEnd s else s.rawHum
        rawTemp := if s.idx = 63 then shiftedAtEnd s else s.rawTemp
        shreg := if s.idx = 63 then 0 else shiftedAtEnd s
        idx := s.idx + 1
        phase := .ivlStart }
  | exit (he : endsHere s) (hi : s.idx = 79) :
      Move s { s with
        age := BitVec.ofNat 7 (s.elapsed s.t0), shreg := shiftedAtEnd s, crit := false, phase := .validate }
  | wrongChecksum (hp : s.phase = .validate) (hc : ¬s.checksumAgrees = true) :
      Move s { s with status := .checksumError, crit := false, phase := .done }
  | deliver (hp : s.phase = .validate) (hc : s.checksumAgrees = true) :
      Move s { s with
        out := s.out.writeFrame s.rawHum s.rawTemp (loByte s.shreg), status := .success, phase := .done }
  | complete (hp : s.phase = .done) : Move s { s with phase := .idle }

/-- The step whose selected operations lead to `v` leads on to any state that differs from `v` in the wires at most. -/
theorem step_of_runOps {s u : State} {ops : List Instr} {w : Wires} (ho : s.ordinary = true) (hsel : selected s = ops)
    (hne : ops ≠ []) (hrun : runOps ops s = .next { u with wires := w }) : step s = .next u.advance := by
  rw [step_of_selected ho (hsel ▸ hne), hsel, hrun]
  rfl

/-- A poll that ends a half-interval, as a whole step (41_edge_timing_decoder.md R161). -/
theorem step_of_endsHere {s : State} (ho : s.ordinary = true) (he : endsHere s) : step s = .next (endedHalf s).advance := by
  obtain ⟨w, hw⟩ := runOps_of_endsHere he
  exact step_of_runOps ho rfl (by simp [selected_of_endsHere he]) hw

/-- The validator's operations on a right checksum: ASSEMBLE finds the received byte on its wire. -/
theorem runOps_assemble (s : State) :
    ∃ w, runOps [.csumCompute, .csumReceived, .assemble] s = .next { s with
      out := s.out.writeFrame s.rawHum s.rawTemp (loByte s.shreg), status := .success, phase := .done, wires := w } :=
  ⟨_, (runOps_cons (i := .csumCompute) rfl).trans <| (runOps_cons (i := .csumReceived) rfl).trans <|
    (runOps_singleton _ _).trans (execAssemble_eq _)⟩

theorem step_of_move {s u : State} (ho : s.ordinary = true) (hm : Move s u) : step s = .next u.advance := by
  cases hm with
  | idleWait hp hs => exact step_of_runOps ho (selected_idleWait hp hs) (by simp) rfl
  | read hp hs hv =>
    refine step_of_runOps (w := s.wires) ho (selected_read hp hs hv) (by simp) ?_
    rw [runOps_singleton]
    exact if_pos (by simpa [State.validPin_eq] using hv)
  | reject hp hc => exact step_of_runOps ho (selected_rateReject hp hc) (by simp) rfl
  | accept hp hc => exact step_of_runOps ho (selected_stamp hp hc) (by simp) rfl
  | wakeHold hp he => exact step_of_runOps ho (selected_wakeHold hp he) (by simp) rfl
  | lineRelease hp he => exact step_of_runOps ho (selected_lineRelease hp he) (by simp) rfl
  | releaseWait hp he => exact step_of_runOps ho (selected_releaseWait hp he) (by simp) rfl
  | loopEnter hp he => exact step_of_runOps ho (selected_loopEnter hp he) (by simp) rfl
  | ivlStart hp => exact step_of_runOps ho (selected_ivlStart hp) (by simp) rfl
  | timeout hp he => exact step_of_runOps ho (selected_timeoutAbort hp he) (by simp) rfl
  | pollWait hp he hl => exact step_of_runOps ho (selected_pollWait hp he hl) (by simp) rfl
  | advance he hi => simpa only [endedHalf, if_neg hi] using step_of_endsHere ho he
  | exit he hi => simpa [endedHalf, hi] using step_of_endsHere ho he
  | wrongChecksum hp hc => exact step_of_runOps ho (selected_csumFail hp hc) (by simp) rfl
  | deliver hp hc =>
    obtain ⟨w, hw⟩ := runOps_assemble s
    exact step_of_runOps ho (selected_assemble hp hc) (by simp) hw
  | complete hp => exact step_of_runOps ho (selected_complete hp) (by simp) rfl

/-- From every state but one with a command for an invalid pin there is a move. -/
theorem exists_move {s : State} (hpin : ¬(s.phase = .idle ∧ s.start = true ∧ s.pinId ∉ s.params.validPins)) :
    ∃ u, Move s u := by
  cases hp : s.phase with
  | idle =>
    by_cases hs : s.start = true
    · exact ⟨_, .read hp hs (by by_contra hv; exact hpin ⟨hp, hs, hv⟩)⟩
    · exact ⟨_, .idleWait hp (by simpa using hs)⟩
  | ratecheck =>
    by_cases hc : s.lastValid = true ∧ s.elapsed s.lastTs < 2000000
    · exact ⟨_, .reject hp hc⟩
    · exact ⟨_, .accept hp hc⟩
  | wake =>
    rcases lt_or_ge (s.elapsed s.t0) 2000 with he | he
    · exact ⟨_, .wakeHold hp he⟩
    · exact ⟨_, .lineRelease hp he⟩
  | release =>
    rcases lt_or_ge (s.elapsed s.t0) 25 with he | he
    · exact ⟨_, .releaseWait hp he⟩
    · exact ⟨_, .loopEnter hp he⟩
  | ivlStart => exact ⟨_, .ivlStart hp⟩
  | poll =>
    rcases lt_or_ge 90 (s.elapsed s.t0) with he | he
    · exact ⟨_, .timeout hp he⟩
    by_cases hl : s.gpioIn = waitLevel s.idx
    · exact ⟨_, .pollWait hp he hl⟩
    by_cases hi : s.idx = 79
    · exact ⟨_, .exit ⟨hp, he, hl⟩ hi⟩
    · exact ⟨_, .advance ⟨hp, he, hl⟩ hi⟩
  | validate =>
    by_cases hc : s.checksumAgrees = true
    · exact ⟨_, .deliver hp hc⟩
    · exact ⟨_, .wrongChecksum hp hc⟩
  | done => exact ⟨_, .complete hp⟩

/-- A command for an invalid pin has no meaning (30_encoding.md R100). -/
theorem step_of_invalidPin {s : State} (ho : s.ordinary = true) (hp : s.phase = .idle) (hs : s.start = true)
    (hv : s.pinId ∉ s.params.validPins) : step s = .refused (.invalidPin s.pinId) := by
  obtain ⟨he, ht, hr⟩ := State.ordinary_iff.1 ho
  rw [step_of_takesInputs he ht, stepInputs, if_neg (by simp [hr]), selected_invalidPin hp hs hv]

/-- An ordinary step that answers a next state has made a move. -/
theorem move_of_step {s t : State} (ho : s.ordinary = true) (h : step s = .next t) : ∃ u, Move s u ∧ t = u.advance := by
  by_cases hpin : s.phase = .idle ∧ s.start = true ∧ s.pinId ∉ s.params.validPins
  · obtain ⟨hp, hs, hv⟩ := hpin
    rw [step_of_invalidPin ho hp hs hv] at h
    cases h
  · obtain ⟨u, hu⟩ := exists_move hpin
    rw [step_of_move ho hu] at h
    cases h
    exact ⟨u, hu, rfl⟩

/-- The registers after a frame taken whole (30_encoding.md R94; log 13). -/
def frameTaken (h t : Word) (c : Byte) (s : State) : State :=
  { s with
    rawHum := h, rawTemp := t, shreg := c.setWidth 16, idx := 79, age := lastAge c (Config.freeAge s.tick)
    t0 := Config.freeStart s.tick % 2 ^ s.params.tsW, crit := false, phase := .validate }

theorem exec_frame (h t : Word) (c : Byte) (s : State) : exec (.frame h t c) s = .next (frameTaken h t c s) := rfl

/-- What a step that answers a next state has done. -/
inductive Passes (s : State) : State → Prop where
  | reset (ht : s.takesInputs = true) (hr : s.rst = true) : Passes s s.applyReset
  | frame (h t : Word) (c : Byte) (hl : s.atLoopStart = true) : Passes s (frameTaken h t c s)
  | move {u : State} (ho : s.ordinary = true) (hm : Move s u) : Passes s u

theorem passes_of_step {s t : State} (h : step s = .next t) : ∃ u, Passes s u ∧ t = u.advance := by
  obtain ⟨he, ⟨ht, hr, rfl⟩ | ⟨hum, temp, c, r, u, -, hl, hu, rfl⟩ | ⟨ht, hr, -⟩⟩ := step_cases h
  · exact ⟨_, .reset ht hr, rfl⟩
  · rw [exec_frame] at hu
    cases hu
    exact ⟨_, .frame hum temp c hl, rfl⟩
  · have ho := State.ordinary_iff.2 ⟨he, ht, hr⟩
    obtain ⟨u, hm, rfl⟩ := move_of_step ho h
    exact ⟨u, .move ho hm, rfl⟩

end Sys2Proof.Machine
end

section
/-! The invariants of 10_state.md R44 through the moves of the sequencer, a whole frame and a reset. -/

namespace Sys2Proof.Safety

open Sys2Proof Sys2Proof.Machine

/-- Outside an accepted attempt the invariants ask for the widths, an idle line and no critical section. -/
theorem inv_of_not_accepted {u : State} (hp : accepted u.phase = false) (hcrit : u.crit = false) (hdir : u.gpioDir = false)
    (hlow : u.gpioOut = .low) (hpin : u.pin < 2 ^ u.params.pinW) (ht0 : u.t0 < 2 ^ u.params.tsW)
    (hlast : u.lastTs < 2 ^ u.params.tsW) (hout : Memory.wf u.out = true) (hw : u.wires = Wires.idle) : Inv u := by
  obtain ⟨hwake, hloop, hval⟩ : u.phase ≠ .wake ∧ inLoop u.phase = false ∧ u.phase ≠ .validate := by
    revert hp
    cases u.phase <;> decide
  exact {
    critInLoop := by rw [hcrit, hloop]
    drivesInWake := by rw [hdir, decide_eq_false hwake]
    neverHigh := hlow
    idxRange := fun h => absurd h (by simp [hloop])
    stamped := fun h => absurd h (by simp [hp])
    wakeFromStamp := fun h => absurd h hwake
    checksumByte := fun h => absurd h hval
    checksumBits := fun h => absurd h (by simp [hloop])
    pinWidth := hpin
    t0Width := ht0
    lastTsWidth := hlast
    outWf := hout
    wiresIdle := hw }

/-- The passage to the next step keeps the invariants. -/
theorem Inv.advance {u : State} (h : Inv u) : Inv u.advance :=
  { h with wiresIdle := rfl }

section
variable {s : State} (h : Inv s)
include h

theorem Inv.crit_eq_false (hp : inLoop s.phase = false) : s.crit = false := by rw [h.critInLoop, hp]

theorem Inv.gpioDir_eq_false (hp : s.phase ≠ .wake) : s.gpioDir = false := by rw [h.drivesInWake, decide_eq_false hp]

end

theorem inv_applyReset {s : State} (hw : s.wires = Wires.idle) : Inv s.applyReset :=
  inv_of_not_accepted rfl rfl rfl rfl (Nat.mod_lt _ (Nat.two_pow_pos _)) (Nat.mod_lt _ (Nat.two_pow_pos _))
    (Nat.mod_lt _ (Nat.two_pow_pos _)) (Memory.ofBytes_wf _) hw

theorem toInt_add_one : ∀ i : BitVec 8, i.toInt < 127 → (i + 1).toInt = i.toInt + 1 := by decide

/-- One bit of the checksum more after each odd index (10_state.md R44 item 7). -/
theorem checksumBitsBefore_succ : ∀ i : BitVec 8, 64 ≤ i.toInt → i.toInt < 79 →
    checksumBitsBefore (i + 1) = checksumBitsBefore i + if i.toInt % 2 = 1 then 1 else 0 := by decide

/-- At an odd index the accumulator grows by one bit, at an even one it stays. -/
theorem shiftedAtEnd_lt {s : State} {n : Nat} (hi : 0 ≤ s.idx.toInt) (hb : s.shreg.toNat < 2 ^ n) :
    (shiftedAtEnd s).toNat < 2 ^ (n + if s.idx.toInt % 2 = 1 then 1 else 0) := by
  by_cases hodd : s.idx.toInt % 2 = 1
  · rw [shiftedAtEnd, if_pos ⟨hi, hodd⟩, if_pos hodd, BitVec.toNat_ofNat, pow_succ]
    refine lt_of_le_of_lt (Nat.mod_le _ _) ?_
    split_ifs <;> omega
  · rw [shiftedAtEnd, if_neg (fun hu => hodd hu.2), if_neg hodd]
    exact hb

/-- Item 7 of 10_state.md R44 at the next index: at 63 the accumulator is cleared, from 64 on it grows with the bits. -/
theorem Inv.checksumBits_succ {s : State} (h : Inv s) (hp : inLoop s.phase = true) (hlt : s.idx.toInt < 79)
    (hi : 64 ≤ (s.idx + 1).toInt) :
    (if s.idx = 63 then 0 else shiftedAtEnd s).toNat < 2 ^ checksumBitsBefore (s.idx + 1) := by
  by_cases h63 : s.idx = 63
  · rw [if_pos h63]
    exact Nat.two_pow_pos _
  · have hne : s.idx.toInt ≠ 63 := fun he => h63 (BitVec.toInt_inj.1 he)
    rw [toInt_add_one _ (by omega)] at hi
    rw [if_neg h63, checksumBitsBefore_succ _ (by omega) hlt]
    exact shiftedAtEnd_lt (by omega) (h.checksumBits hp (by omega))

/-- At the last index the accumulator is a byte (10_state.md R44 item 6). -/
theorem Inv.shiftedAtEnd_last {s : State} (h : Inv s) (hp : inLoop s.phase = true) (hi : s.idx = 79) :
    (shiftedAtEnd s).toNat < 256 := by
  have hb := h.checksumBits hp (by rw [hi]; decide)
  have hs := shiftedAtEnd_lt (by rw [hi]; decide) hb
  rw [hi] at hs
  exact hs

/-- Below its last value the index of the loop can be counted up. -/
theorem Inv.idx_lt_last {s : State} (h : Inv s) (hp : inLoop s.phase = true) (hi : s.idx ≠ 79) : s.idx.toInt < 79 := by
  have hne : s.idx.toInt ≠ 79 := fun he => hi (BitVec.toInt_inj.1 he)
  have := (h.idxRange hp).2
  omega

theorem Inv.move {s u : State} (h : Inv s) (hm : Move s u) : Inv u := by
  have nowLt := s.now_lt
  cases hm with
  | idleWait | wakeHold | releaseWait | pollWait => exact h
  | read hp =>
    exact inv_of_not_accepted rfl (h.crit_eq_false (by rw [hp]; rfl)) (h.gpioDir_eq_false (by simp [hp])) h.neverHigh s.pinId_lt
      h.t0Width h.lastTsWidth h.outWf h.wiresIdle
  | reject hp | timeout hp | wrongChecksum hp =>
    exact inv_of_not_accepted rfl rfl (h.gpioDir_eq_false (by simp [hp])) h.neverHigh h.pinWidth h.t0Width h.lastTsWidth
      h.outWf h.wiresIdle
  | accept hp =>
    exact { h with
      critInLoop := h.crit_eq_false (by rw [hp]; rfl)
      drivesInWake := rfl
      neverHigh := rfl
      idxRange := nofun
      stamped := fun _ => rfl
      wakeFromStamp := fun _ => rfl
      checksumByte := nofun
      checksumBits := nofun
      t0Width := nowLt
      lastTsWidth := nowLt }
  | lineRelease hp =>
    exact { h with
      critInLoop := h.crit_eq_false (by rw [hp]; rfl)
      drivesInWake := rfl
      idxRange := nofun
      stamped := fun _ => h.stamped (by rw [hp]; rfl)
      wakeFromStamp := nofun
      checksumByte := nofun
      checksumBits := nofun
      t0Width := nowLt }
  | loopEnter hp =>
    exact { h with
      critInLoop := rfl
      drivesInWake := h.gpioDir_eq_false (by simp [hp])
      idxRange := fun _ => (by decide : -3 ≤ (-3 : BitVec 8).toInt ∧ (-3 : BitVec 8).toInt ≤ 79)
      stamped := fun _ => h.stamped (by rw [hp]; rfl)
      wakeFromStamp := nofun
      checksumByte := nofun
      checksumBits := fun _ hi => absurd hi (by decide : ¬64 ≤ (-3 : BitVec 8).toInt) }
  | ivlStart hp =>
    have hl : inLoop s.phase = true := by rw [hp]; rfl
    exact { h with
      critInLoop := h.critInLoop.trans hl
      drivesInWake := h.gpioDir_eq_false (by simp [hp])
      idxRange := fun _ => h.idxRange hl
      stamped := fun _ => h.stamped (by rw [hp]; rfl)
      wakeFromStamp := nofun
      checksumByte := nofun
      checksumBits := fun _ => h.checksumBits hl
      t0Width := nowLt }
  | advance he hi =>
    have hp := he.1
    have hl : inLoop s.phase = true := by rw [hp]; rfl
    have hlt := h.idx_lt_last hl hi
    have hge := (h.idxRange hl).1
    exact { h with
      critInLoop := h.critInLoop.trans hl
      drivesInWake := h.gpioDir_eq_false (by simp [hp])
      idxRange := fun _ => by
        show -3 ≤ (s.idx + 1).toInt ∧ (s.idx + 1).toInt ≤ 79
        rw [toInt_add_one _ (by omega)]
        omega
      stamped := fun _ => h.stamped (by rw [hp]; rfl)
      wakeFromStamp := nofun
      checksumByte := nofun
      checksumBits := fun _ => h.checksumBits_succ hl hlt }
  | exit he hi =>
    have hp := he.1
    exact { h with
      critInLoop := rfl
      drivesInWake := h.gpioDir_eq_false (by simp [hp])
      idxRange := nofun
      stamped := fun _ => h.stamped (by rw [hp]; rfl)
      wakeFromStamp := nofun
      checksumByte := fun _ => h.shiftedAtEnd_last (by rw [hp]; rfl) hi
      checksumBits := nofun }
  | deliver hp =>
    exact inv_of_not_accepted rfl (h.crit_eq_false (by rw [hp]; rfl)) (h.gpioDir_eq_false (by simp [hp])) h.neverHigh h.pinWidth
      h.t0Width h.lastTsWidth (Memory.writeFrame_wf h.outWf _ _ _) h.wiresIdle
  | complete hp =>
    exact inv_of_not_accepted rfl (h.crit_eq_false (by rw [hp]; rfl)) (h.gpioDir_eq_false (by simp [hp])) h.neverHigh h.pinWidth
      h.t0Width h.lastTsWidth h.outWf h.wiresIdle

theorem Inv.passes {s u : State} (h : Inv s) (hm : Passes s u) : Inv u := by
  cases hm with
  | reset => exact inv_applyReset h.wiresIdle
  | frame hum temp c hl =>
    obtain ⟨hp, -⟩ := State.atLoopStart_iff.1 hl
    exact { h with
      critInLoop := rfl
      drivesInWake := h.gpioDir_eq_false (by simp [hp])
      idxRange := nofun
      stamped := fun _ => h.stamped (by rw [hp]; rfl)
      wakeFromStamp := nofun
      checksumByte := fun _ => by
        show (c.setWidth 16).toNat < 256
        rw [BitVec.toNat_setWidth]
        exact lt_of_le_of_lt (Nat.mod_le _ _) c.isLt
      checksumBits := nofun
      t0Width := Nat.mod_lt _ (Nat.two_pow_pos _) }
  | move _ hm => exact h.move hm

end Sys2Proof.Safety

open Sys2Proof Sys2Proof.Machine Sys2Proof.Safety

/-- Settles O37, by the moves of the sequencer, a whole frame and a reset. -/
theorem stepKeepsTheInvariants : Obligations.StepKeepsTheInvariants := by
  intro s t h hstep
  obtain ⟨u, hu, rfl⟩ := passes_of_step hstep
  exact (h.passes hu).advance

/-- Settles O38: the block is idle, and every register fits its width. -/
theorem resetMeetsTheInvariants : Obligations.ResetMeetsTheInvariants :=
  inv_of_not_accepted rfl rfl rfl rfl (Nat.two_pow_pos _) (Nat.two_pow_pos _) (Nat.two_pow_pos _) rfl rfl

end

section
/-! The statements of 10_state.md that follow from the moves of the sequencer. -/

namespace Sys2Proof.Machine

open Sys2Proof Sys2Proof.Safety

theorem loByte_eq_setWidth (v : Word) : loByte v = v.setWidth 8 :=
  BitVec.eq_of_toNat_eq (by rw [loByte_toNat, BitVec.toNat_setWidth])

/-- A move from a state that meets the invariants is the record of its phase. -/
theorem Move.eq_flatStep {s u : State} (h : Inv s) (hm : Move s u) : u = flatStep s := by
  cases hm with
  | idleWait hp hs => simp [flatStep, hp, hs]
  | read hp hs => simp [flatStep, hp, hs]
  | reject hp hc => simp [flatStep, hp, hc, h.crit_eq_false (by rw [hp]; rfl)]
  | accept hp hc => simp only [flatStep, hp, if_neg hc]
  | wakeHold hp he => simp [flatStep, hp, he]
  | lineRelease hp he => simp [flatStep, hp, not_lt.2 he]
  | releaseWait hp he => simp [flatStep, hp, he]
  | loopEnter hp he => simp [flatStep, hp, not_lt.2 he]
  | ivlStart hp => simp [flatStep, hp]
  | timeout hp he => simp [flatStep, hp, he]
  | pollWait hp he hl => simp [flatStep, hp, not_lt.2 he, hl]
  | advance he hi =>
    obtain ⟨hp, he, hl⟩ := he
    simp only [flatStep, hp, if_neg (not_lt.2 he), if_neg hl, if_neg hi]
  | exit he hi =>
    obtain ⟨hp, he, hl⟩ := he
    simp only [flatStep, hp, if_neg (not_lt.2 he), if_neg hl, if_pos hi]
    simp [hi]
  | wrongChecksum hp hc => simp [flatStep, hp, mt State.checksumAgrees_iff.2 hc, h.crit_eq_false (by rw [hp]; rfl)]
  | deliver hp hc =>
    simp only [flatStep, hp, if_pos (State.checksumAgrees_iff.1 hc), Memory.writeFrame_eq_ofBytes h.outWf, loByte_eq_setWidth]
  | complete hp => simp [flatStep, hp]

/-- A move leads to the phase and index of the table of 10_state.md R23. -/
theorem Move.leads_to_successor {s u : State} (h : Inv s) (hm : Move s u) : (u.phase, u.idx.toInt) = successor s := by
  cases hm with
  | idleWait hp hs => simp [successor, hp, hs]
  | read hp hs => simp [successor, hp, hs]
  | reject hp hc => simp only [successor, hp, if_pos hc]
  | accept hp hc => simp only [successor, hp, if_neg hc]
  | wakeHold hp he => simp only [successor, hp, if_pos he]
  | lineRelease hp he => simp only [successor, hp, if_neg (not_lt.2 he)]
  | releaseWait hp he => simp only [successor, hp, if_pos he]
  | loopEnter hp he =>
    simp only [successor, hp, if_neg (not_lt.2 he)]
    rfl
  | ivlStart hp => simp only [successor, hp]
  | timeout hp he => simp only [successor, hp, if_pos he]
  | pollWait hp he hl => simp only [successor, hp, if_neg (not_lt.2 he), if_pos hl]
  | advance he hi =>
    obtain ⟨hp, he, hl⟩ := he
    have hlt := h.idx_lt_last (by rw [hp]; rfl) hi
    simp only [successor, hp, if_neg (not_lt.2 he), if_neg hl, if_pos hlt]
    rw [toInt_add_one _ (by omega)]
  | exit he hi =>
    obtain ⟨hp, he, hl⟩ := he
    have hlast : s.idx.toInt = 79 := by rw [hi]; rfl
    simp [successor, hp, not_lt.2 he, hl, hlast]
  | wrongChecksum hp | deliver hp | complete hp => simp only [successor, hp]

/-- Each way into `DONE` with the result kind it reports (10_state.md R23). -/
theorem Move.report {s u : State} (hm : Move s u) (hne : s.phase ≠ .done) (hd : u.phase = .done) :
    (s.phase = .ratecheck ∧ u.status = .rateLimited) ∨ (s.phase = .poll ∧ u.status = .timeout) ∨
      (s.phase = .validate ∧ u.status = if s.checksumAgrees = true then .success else .checksumError) := by
  cases hm with
  | reject hp => exact .inl ⟨hp, rfl⟩
  | timeout hp => exact .inr (.inl ⟨hp, rfl⟩)
  | wrongChecksum hp hc => exact .inr (.inr ⟨hp, (if_neg hc).symm⟩)
  | deliver hp hc => exact .inr (.inr ⟨hp, (if_pos hc).symm⟩)
  | idleWait | wakeHold | releaseWait | pollWait => exact absurd hd hne
  | read | accept | lineRelease | loopEnter | ivlStart | advance | exit | complete => cases hd

/-- The moves that drop `CRIT` end the attempt or leave the loop for the validator. -/
theorem Move.phase_of_crit_drops {s u : State} (hm : Move s u) (hs : s.crit = true) (hu : u.crit = false) :
    u.phase = .done ∨ u.phase = .validate := by
  cases hm with
  | reject | timeout | wrongChecksum => exact .inl rfl
  | exit => exact .inr rfl
  | loopEnter => cases hu
  | _ => exact absurd (hs.symm.trans hu) (by decide)

end Sys2Proof.Machine

open Sys2Proof Sys2Proof.Machine Sys2Proof.Safety

/-- Settles O36: the step makes a move, and the move is the record of its phase. -/
theorem stepEqualsTheFlatMachine : Obligations.StepEqualsTheFlatMachine := by
  intro s h ho hpin
  obtain ⟨u, hu⟩ := exists_move hpin
  rw [step_of_move ho hu, hu.eq_flatStep h]

/-- Settles O35, by the phase and the report of each move. -/
theorem sequencerFollowsItsTable : Obligations.SequencerFollowsItsTable := by
  intro s t h ho hstep
  obtain ⟨u, hu, rfl⟩ := move_of_step ho hstep
  have hsucc := hu.leads_to_successor h
  refine ⟨hsucc, fun hp hd => ?_, fun hp hd => ?_, fun hp => ?_⟩
  · simpa [hp] using hu.report (by simp [hp]) hd
  · simpa [hp] using hu.report (by simp [hp]) hd
  · have hd : u.phase = .done := by
      simpa [successor, hp] using congrArg Prod.fst hsucc
    have hr := hu.report (by simp [hp]) hd
    simp only [hp, reduceCtorEq, false_and, true_and, false_or] at hr
    rw [← State.checksumAgrees_iff, State.advance_status, hr]
    split_ifs with hc <;> simp [hc]

/-- Settles O41: only the move of an accepted attempt writes the two. -/
theorem rateLimitStateIsWrittenByAcceptanceOnly : Obligations.RateLimitStateIsWrittenByAcceptanceOnly := by
  intro s t hstep hreset
  obtain ⟨u, hu, rfl⟩ := passes_of_step hstep
  cases hu with
  | reset ht hr => exact absurd ⟨ht, hr⟩ hreset
  | frame => exact .inl ⟨rfl, rfl⟩
  | move _ hm =>
    cases hm with
    | accept hp hc => exact .inr ⟨hp, hc, rfl, rfl, rfl⟩
    | _ => exact .inl ⟨rfl, rfl⟩

/-- Settles O42: only the move of a right checksum writes `OUT`. -/
theorem resultIsWrittenWholeOrNotAtAll : Obligations.ResultIsWrittenWholeOrNotAtAll := by
  intro s t h hstep hreset
  obtain ⟨u, hu, rfl⟩ := passes_of_step hstep
  cases hu with
  | reset ht hr => exact absurd ⟨ht, hr⟩ hreset
  | frame => exact .inl fun _ => rfl
  | move _ hm =>
    cases hm with
    | deliver hp hc =>
      have hbyte : (loByte s.shreg).toNat = s.shreg.toNat := by
        rw [loByte_toNat, Nat.mod_eq_of_lt (h.checksumByte hp)]
      refine .inr ⟨hp, rfl, rfl, ?_, ?_⟩
      · rw [← hbyte]
        exact outBytes_writeFrame_toNat h.outWf _ _ _
      · have hsum := State.checksumAgrees_iff.1 hc
        obtain ⟨h0, h1, h2, h3, h4⟩ := Memory.bytes_writeFrame h.outWf s.rawHum s.rawTemp (loByte s.shreg)
        rw [State.advance_out, h0, h1, h2, h3, h4, hiByte_toNat, loByte_toNat, hiByte_toNat, loByte_toNat, loByte_toNat]
        omega
    | _ => exact .inl fun _ => rfl

/-- Settles O43, by the four moves that write `STATUS`. -/
theorem statusIsWrittenOnEnteringDoneOnly : Obligations.StatusIsWrittenOnEnteringDoneOnly := by
  intro s t hstep hreset hne
  obtain ⟨u, hu, rfl⟩ := passes_of_step hstep
  cases hu with
  | reset ht hr => exact absurd ⟨ht, hr⟩ hreset
  | frame => exact absurd rfl hne
  | move _ hm =>
    cases hm with
    | reject hp => exact ⟨rfl, .inl hp⟩
    | timeout hp => exact ⟨rfl, .inr (.inl hp)⟩
    | wrongChecksum hp | deliver hp => exact ⟨rfl, .inr (.inr hp)⟩
    | _ => exact absurd rfl hne

/-- Settles O44: the invariants hold after the step, and the phases that can follow the loop are read from its moves. -/
theorem lineAndCriticalSectionFollowThePhase : Obligations.LineAndCriticalSectionFollowThePhase := by
  intro s t h hstep
  obtain ⟨u, hu, rfl⟩ := passes_of_step hstep
  have hinv := h.passes hu
  have hcrit : u.crit = true ↔ u.phase = .ivlStart ∨ u.phase = .poll := by simp [hinv.critInLoop, inLoop]
  refine ⟨?_, hinv.neverHigh, hcrit, fun hs ht => ?_⟩
  · show u.gpioDir = true ↔ u.phase = .wake
    simp [hinv.drivesInWake]
  · cases hu with
    | reset => exact .inr (.inr rfl)
    | frame => exact .inr (.inl rfl)
    | move _ hm => exact (hm.phase_of_crit_drops hs ht).imp_right .inl

/-- Settles O1, by the rule of a step with `rst`. -/
theorem resetForcesTheStatedValues : Obligations.ResetForcesTheStatedValues := by
  refine ⟨⟨rfl, rfl, rfl, rfl, rfl⟩, fun s he ht hr => ⟨s.applyReset.advance, ?_, rfl, rfl, rfl, rfl, rfl⟩⟩
  rw [step_of_takesInputs he ht, stepInputs, if_pos hr]

/-- Settles O45, by the definition of each port and the bytes of `out_bytes` as a number. -/
theorem portsAreFunctionsOfTheState : Obligations.PortsAreFunctionsOfTheState := by
  intro s
  refine ⟨?busy, ?done, rfl, rfl, rfl, rfl, ?status, outBytes_toNat s.out⟩
  case busy => simp [State.ports, State.busy]
  case done => simp [State.ports, State.isDone]
  case status => cases hk : s.status <;> simp [State.ports, Status.code, hk]

/-- Settles O40: READ writes if the pin is valid, and every other operation is its writes, under no condition. -/
theorem operationsKeepWhatTheyDoNotWrite : Obligations.OperationsKeepWhatTheyDoNotWrite := by
  intro i s t h hframe
  cases i
  case frame => exact absurd rfl (hframe _ _ _)
  case read =>
    change execRead s = _ at h
    unfold execRead at h
    split at h <;> cases h
    simp
  all_goals
    cases h
    simp

end

section
/-! Which inputs a step reads in each phase (20_memory.md R62, 10_state.md R38, R77), and the accesses to the result buffer
(20_memory.md R64, 00_scope.md R9). -/

namespace Sys2Proof.Machine

open Sys2Proof

/-! ### The inputs that a step reads -/

/-- A step with `rst` is a reset, whatever else it is given (70_reset_and_hazards.md R240). -/
theorem step_of_rst {s : State} (he : s.params.enable = true) (ht : s.takesInputs = true) (hr : s.rst = true) :
    step s = .next s.applyReset.advance := by
  rw [step_of_takesInputs he ht, stepInputs, if_pos hr]

/-- The inputs `i` and `j` agree on what a step of phase `p` reads: every step reads `rst` and `now`, a step of `IDLE` the command
besides, a step of `POLL` the line. -/
structure ReadAlike (p : Phase) (i j : Inputs) : Prop where
  rst : i.rst = j.rst
  now : i.now = j.now
  start : p = .idle → i.start = j.start
  pinId : p = .idle → i.pinId = j.pinId
  gpioIn : p = .poll → i.gpioIn = j.gpioIn

/-- The registers of `s`, about to make a step with the inputs `i`. -/
def State.given (s : State) (i : Inputs) (r : List Stimulus) : State := { s with script := .tick i :: r }

section
variable {s : State} {i j : Inputs} {r : List Stimulus}

theorem State.given_eq_self (hs : s.script = .tick i :: r) : s.given i r = s := by
  rw [State.given, ← hs]

/-- A move is also made on inputs that agree on what its phase reads, and leads to the same next state. -/
theorem Move.of_readAlike {u : State} (hm : Move (s.given i r) u) (h : ReadAlike s.phase i j) :
    ∃ v, Move (s.given j r) v ∧ v.advance = u.advance := by
  obtain ⟨rst, start, pinId, now, gpioIn⟩ := i
  obtain ⟨rst', start', pinId', now', gpioIn'⟩ := j
  obtain ⟨hrst, hnow, hstart, hpin, hline⟩ := h
  dsimp only at hrst hnow hstart hpin hline
  subst hrst hnow
  cases hm with
  | idleWait hp hs => exact ⟨_, .idleWait hp ((hstart hp).symm.trans hs), rfl⟩
  | read hp hs hv =>
    obtain rfl := hstart hp
    obtain rfl := hpin hp
    exact ⟨_, .read hp hs hv, rfl⟩
  | reject hp hc => exact ⟨_, .reject hp hc, rfl⟩
  | accept hp hc => exact ⟨_, .accept hp hc, rfl⟩
  | wakeHold hp he => exact ⟨_, .wakeHold hp he, rfl⟩
  | lineRelease hp he => exact ⟨_, .lineRelease hp he, rfl⟩
  | releaseWait hp he => exact ⟨_, .releaseWait hp he, rfl⟩
  | loopEnter hp he => exact ⟨_, .loopEnter hp he, rfl⟩
  | ivlStart hp => exact ⟨_, .ivlStart hp, rfl⟩
  | timeout hp he => exact ⟨_, .timeout hp he, rfl⟩
  | pollWait hp he hl => exact ⟨_, .pollWait hp he ((hline hp).symm.trans hl), rfl⟩
  | advance he hi =>
    obtain rfl := hline he.1
    exact ⟨_, .advance he hi, rfl⟩
  | exit he hi =>
    obtain rfl := hline he.1
    exact ⟨_, .exit he hi, rfl⟩
  | wrongChecksum hp hc => exact ⟨_, .wrongChecksum hp hc, rfl⟩
  | deliver hp hc => exact ⟨_, .deliver hp hc, rfl⟩
  | complete hp => exact ⟨_, .complete hp, rfl⟩

theorem step_given_of_ordinary (ho : (s.given i r).ordinary = true) (ho' : (s.given j r).ordinary = true)
    (h : ReadAlike s.phase i j) : step (s.given j r) = step (s.given i r) := by
  by_cases hpin : s.phase = .idle ∧ i.start = true ∧ (s.given i r).pinId ∉ s.params.validPins
  · obtain ⟨hp, hs, hv⟩ := hpin
    have hid : (s.given j r).pinId = (s.given i r).pinId := congrArg (· % 2 ^ s.params.pinW) (h.pinId hp).symm
    rw [step_of_invalidPin ho hp hs hv, step_of_invalidPin ho' hp ((h.start hp).symm.trans hs) (hid ▸ hv), hid]
  · obtain ⟨u, hu⟩ := exists_move (s := s.given i r) hpin
    obtain ⟨v, hv, hvu⟩ := hu.of_readAlike h
    rw [step_of_move ho hu, step_of_move ho' hv, hvu]

/-- Two steps with inputs that agree on what the phase reads have the same outcome (10_state.md R38). -/
theorem step_given_of_readAlike (h : ReadAlike s.phase i j) : step (s.given j r) = step (s.given i r) := by
  cases he : s.params.enable with
  | false => rw [step_of_disabled (s := s.given j r) he, step_of_disabled (s := s.given i r) he]
  | true =>
    cases hr : i.rst with
    | false =>
      exact step_given_of_ordinary (State.ordinary_iff.2 ⟨he, rfl, hr⟩)
        (State.ordinary_iff.2 ⟨he, rfl, h.rst.symm.trans hr⟩) h
    | true =>
      rw [step_of_rst (s := s.given j r) he rfl (h.rst.symm.trans hr), step_of_rst (s := s.given i r) he rfl hr]
      rfl

end

/-! ### The accesses to the result buffer -/

section
variable {s : State} {k n : Nat}

theorem memRead_of_lt (hk : k < Config.nOut) : memRead k 1 s = .next (Memory.read s.out k) := by
  rw [memRead, if_pos rfl, if_pos hk]

theorem memRead_of_nOut_le (hk : Config.nOut ≤ k) : memRead k 1 s = .refused (.noSuchByte k) := by
  rw [memRead, if_pos rfl, if_neg (not_lt.2 hk)]

theorem memRead_of_size (hn : n ≠ 1) : memRead k n s = .refused (.accessSize n) := if_neg hn

theorem memWrite_of_lt (hk : k < Config.nOut) (v : Byte) : memWrite k 1 v s = .next (s.setOut ⟨k, hk⟩ v) := by
  rw [memWrite, if_pos rfl, dif_pos hk]

theorem memWrite_of_nOut_le (hk : Config.nOut ≤ k) (v : Byte) : memWrite k 1 v s = .refused (.noSuchByte k) := by
  rw [memWrite, if_pos rfl, dif_neg (not_lt.2 hk)]

theorem memWrite_of_size (hn : n ≠ 1) (v : Byte) : memWrite k n v s = .refused (.accessSize n) := if_neg hn

/-- A read after a write gives the byte written. -/
theorem memRead_setOut (hwf : Memory.wf s.out = true) (hk : k < Config.nOut) (v : Byte) :
    memRead k 1 (s.setOut ⟨k, hk⟩ v) = .next v := by
  rw [memRead_of_lt hk, State.setOut_out, Memory.read_write_same hwf]

end

end Sys2Proof.Machine

open Sys2Proof Sys2Proof.Machine

/-- Settles O5: outside `POLL` the two steps have inputs that agree on all that the phase reads. -/
theorem lineIsReadByPollStepsOnly : Obligations.LineIsReadByPollStepsOnly := by
  intro s i r l hp hs
  have halike : ReadAlike s.phase i { i with gpioIn := l } := ⟨rfl, rfl, fun _ => rfl, fun _ => rfl, fun h => absurd h hp⟩
  calc step (s.given { i with gpioIn := l } r) = step (s.given i r) := step_given_of_readAlike halike
    _ = step s := by rw [State.given_eq_self hs]

/-- Settles O46, by the rule of each access, and the laws of the buffer for the bytes after a write. -/
theorem resultBufferIsFiveBytes : Obligations.ResultBufferIsFiveBytes := by
  intro s k hwf
  refine ⟨memRead_of_lt, fun hk => ⟨memRead_of_nOut_le hk, memWrite_of_nOut_le hk⟩,
    fun n hn => ⟨memRead_of_size hn, memWrite_of_size hn⟩, fun hk v => ?written⟩
  case written =>
    exact ⟨s.setOut ⟨k, hk⟩ v, memWrite_of_lt hk v, rfl, State.setOut_wf hwf, memRead_setOut hwf hk v,
      fun j hj => Memory.read_write_other hj⟩

end

section
/-! The decoder and the encoder (30_encoding.md R94 to R101): the word of a row and the rows of a word, a frame and its 40 bits, and
the sums of 30_encoding.md R95. -/

namespace Sys2Proof

open Machine

/-! ### Sequencer words -/

theorem decode_seqWord (w : SeqWord) : decode 11 w.toNat = .ok (rowsOf w) := by
  rw [decode_seq (le_refl 11) (by decide) w.isLt, BitVec.ofNat_toNat, BitVec.setWidth_eq]

/-- `SEQ` as a number (30_encoding.md R97). -/
theorem seqOf_toNat (p : Phase) (x : BitVec 8) : (seqOf p x).toNat = p.code.toNat * 256 + x.toNat :=
  toNat_append_eq_add p.code x

theorem mem_rowsOf {i : Instr} {w : SeqWord} : i ∈ rowsOf w ↔ i ∈ operations ∧ i.matchesSeq w = true := List.mem_filter

theorem rowsOf_nodup (w : SeqWord) : (rowsOf w).Nodup := (by decide : operations.Nodup).filter _

/-- What is no frame is a row of the table, and its code is the match word of the row (30_encoding.md R99). -/
theorem operation_of_ne_frame {i : Instr} (hi : ∀ h t c, i ≠ .frame h t c) :
    i ∈ operations ∧ encode i = ⟨11, i.pattern.toNat⟩ := by
  cases i with
  | frame h t c => exact absurd rfl (hi h t c)
  | _ => exact ⟨by decide, rfl⟩

/-- The match word of a row lies within its mask. -/
theorem matchesSeq_pattern (i : Instr) : i.matchesSeq i.pattern = true := by
  cases i with
  | frame h t c => exact beq_iff_eq.2 BitVec.and_self
  | _ => rfl

/-- The rows of a word, by the columns of 30_encoding.md R99. -/
theorem mem_rowsOf_seqOf (p : Phase) (x : BitVec 8) (i : Instr) :
    i ∈ rowsOf (seqOf p x) ↔ tablePhase i = some p ∧ tableIdx i x := by
  cases p with
  | poll =>
    have h31 : x = Config.iSnapHum ↔ x.toInt = 31 := BitVec.toInt_inj.symm
    have h63 : x = Config.iSnapTemp ↔ x.toInt = 63 := BitVec.toInt_inj.symm
    have h79 : x = Config.iLast ↔ x.toInt = 79 := BitVec.toInt_inj.symm
    rw [rowsOf_poll]
    cases i <;> simp [tablePhase, tableIdx, usedIdx_iff, h31, h63, h79]
  | _ =>
    simp only [rowsOf_idle, rowsOf_ratecheck, rowsOf_wake, rowsOf_release, rowsOf_ivlStart, rowsOf_validate, rowsOf_done]
    cases i <;> simp [tablePhase, tableIdx]

/-! ### Frames -/

/-- The decoder takes the fields of a frame as they were put together. -/
theorem frameOf_append (h t : Word) (c : Byte) : frameOf (h ++ t ++ c) = .frame h t c := by
  simp (disch := decide) only [frameOf, BitVec.extractLsb'_append_eq_of_le, BitVec.extractLsb'_append_eq_of_add_le,
    BitVec.extractLsb'_eq_self, Nat.reduceSub]

/-- The fields of a frame put together again are its 40 bits. -/
theorem append_fields (w : BitVec 40) : w.extractLsb' 24 16 ++ w.extractLsb' 8 16 ++ w.extractLsb' 0 8 = w := by
  rw [BitVec.extractLsb'_append_extractLsb'_eq_extractLsb' (show 24 = 8 + 16 from rfl),
    BitVec.extractLsb'_append_extractLsb'_eq_extractLsb' (show 8 = 0 + 8 from rfl)]
  exact BitVec.extractLsb'_eq_self

theorem decode_encode_frame (h t : Word) (c : Byte) : decode 40 (encode (.frame h t c)).word = .ok [.frame h t c] := by
  rw [encode, decode_frame (h ++ t ++ c).isLt, BitVec.ofNat_toNat, BitVec.setWidth_eq, frameOf_append]

theorem encode_frameOf (w : BitVec 40) : encode (frameOf w) = ⟨40, w.toNat⟩ := by
  rw [frameOf, encode, append_fields]
  rfl

/-! ### The sums of 30_encoding.md R95 -/

/-- One bit more doubles the sum of the earlier ones. -/
theorem fieldOf_succ (b : Nat → Nat) (first n : Nat) : fieldOf b first (n + 1) = 2 * fieldOf b first n + b (first + n) := by
  have hdouble : ∀ j ∈ List.range n, b (first + j) * 2 ^ (n + 1 - 1 - j) = 2 * (b (first + j) * 2 ^ (n - 1 - j)) := by
    intro j hj
    have hlt := List.mem_range.1 hj
    rw [show n + 1 - 1 - j = (n - 1 - j) + 1 by omega, pow_succ]
    ring
  simp only [fieldOf]
  rw [List.range_succ, List.map_append, List.sum_append, List.map_congr_left hdouble, List.sum_map_mul_left]
  simp

/-- The sum over `n` bits in arrival order is the slice that they are. -/
theorem fieldOf_getMsbD {m : Nat} (w : BitVec m) (first n : Nat) (h : first + n ≤ m) :
    fieldOf (fun k => (w.getMsbD k).toNat) first n = (w.extractLsb' (m - first - n) n).toNat := by
  rw [BitVec.extractLsb'_toNat, Nat.shiftRight_eq_div_pow]
  induction n with
  | zero => simp [fieldOf, Nat.mod_one]
  | succ n ih =>
    have hbit : (w.getMsbD (first + n)).toNat = w.toNat / 2 ^ (m - first - (n + 1)) % 2 := by
      rw [BitVec.getMsbD_eq_getLsbD, decide_eq_true (by omega), Bool.true_and, BitVec.getLsbD, Nat.toNat_testBit,
        show m - 1 - (first + n) = m - first - (n + 1) by omega]
    have hrest : w.toNat / 2 ^ (m - first - n) = w.toNat / 2 ^ (m - first - (n + 1)) / 2 := by
      rw [Nat.div_div_eq_div_mul, ← pow_succ, show m - first - (n + 1) + 1 = m - first - n by omega]
    rw [fieldOf_succ, ih (by omega), hbit, hrest, pow_succ', Nat.mod_mul, Nat.add_comm]

end Sys2Proof

open Sys2Proof Sys2Proof.Machine

/-- Settles O30: a row matches its own match word, and a frame is put together and taken apart without loss. -/
theorem decodeOfEncodeGivesTheInstruction : Obligations.DecodeOfEncodeGivesTheInstruction := by
  refine ⟨fun i _ => ?someRow, fun h t c => ?theFrame, fun w hw => ?everyNumber⟩
  case someRow =>
    by_cases hframe : ∃ h t c, i = .frame h t c
    · obtain ⟨h, t, c, rfl⟩ := hframe
      exact ⟨_, decode_encode_frame h t c, List.mem_singleton_self _⟩
    · obtain ⟨hop, henc⟩ := operation_of_ne_frame (fun h t c hi => hframe ⟨h, t, c, hi⟩)
      rw [henc]
      exact ⟨_, decode_seqWord i.pattern, mem_rowsOf.2 ⟨hop, matchesSeq_pattern i⟩⟩
  case theFrame => rw [decodeTableWord, decode_encode_frame]
  case everyNumber =>
    refine ⟨_, _, _, decode_frame hw, (encode_frameOf _).trans ?_⟩
    rw [BitVec.toNat_ofNat, Nat.mod_eq_of_lt hw]

/-- Settles O28: each field is a slice of the frame, and a slice is the sum of its bits. -/
theorem frameFieldsAreSumsOfTheirBits : Obligations.FrameFieldsAreSumsOfTheirBits := by
  intro w h t c hw
  obtain ⟨rfl, rfl, rfl⟩ := Instr.frame.inj hw
  exact ⟨(fieldOf_getMsbD w 0 16 (by decide)).symm, (fieldOf_getMsbD w 16 16 (by decide)).symm,
    (fieldOf_getMsbD w 32 8 (by decide)).symm⟩

/-- Settles O29: the rows of the word of a phase and an index, and the two limits of the decoder. -/
theorem decoderGivesTheRowsOfTheTable : Obligations.DecoderGivesTheRowsOfTheTable := by
  refine ⟨fun p x => ⟨rowsOf (seqOf p x), ?_, rowsOf_nodup _, mem_rowsOf_seqOf p x⟩, fun w hw => ?seq, fun w hw => ?frame⟩
  · rw [← seqOf_toNat, decode_seqWord]
  case seq => exact (if_neg (by decide)).trans ((if_pos (by decide)).trans (if_neg (not_lt.2 hw)))
  case frame => exact (if_pos rfl).trans (if_neg (not_lt.2 hw))

/-- Settles O31: the words are those of a phase and an index, whose rows are read from the table, and of a frame. -/
theorem writtenOutWordsDecode : Obligations.WrittenOutWordsDecode :=
  ⟨(decode_seqWord (seqOf .wake 0)).trans (congrArg _ (rowsOf_wake 0)),
    (decode_seqWord (seqOf .poll 31)).trans (congrArg _ (rowsOf_poll 31)),
    (decode_seqWord (seqOf .validate 79)).trans (congrArg _ (rowsOf_validate 79)),
    (decode_seqWord (seqOf .done 79)).trans (congrArg _ (rowsOf_done 79)),
    decode_encode_frame 0x025C 0x0105 0x64⟩

end

section
/-! What 30_encoding.md says of a step: the bit that a poll shifts in (R93), the one row that decides the phase (R99, R100), and the
age of a frame taken whole (R94; log 13). -/

namespace Sys2Proof.Machine

open Sys2Proof Sys2Proof.Safety

/-! ### The bit-symbol code (30_encoding.md R93) -/

theorem bitOfAge_eq (a : Nat) : bitOfAge a = if a ≤ 30 then 0 else 1 := by
  rw [bitOfAge, Config.tThresh, ← ite_not]
  simp only [not_lt]

theorem bitOfAge_toNat (a : Nat) : (bitOfAge a).toNat = if 30 < a then 1 else 0 := apply_ite BitVec.toNat _ _ _

section
variable {i : BitVec 8} {a : Nat}

theorem symbolOf_late (ha : 90 < a) : symbolOf i (some a) = .timeout := if_pos ha

theorem symbolOf_used (ha : a ≤ 90) (hi : usedIdx i = true) : symbolOf i (some a) = .bit (bitOfAge a) :=
  (if_neg (not_lt.2 ha)).trans (if_pos hi)

theorem symbolOf_unused (ha : a ≤ 90) (hi : ¬usedIdx i = true) : symbolOf i (some a) = .noInformation :=
  (if_neg (not_lt.2 ha)).trans (if_neg hi)

/-- A width whose symbol is a bit is one in time at a used index. -/
theorem of_symbolOf_eq_bit {b : BitVec 1} (h : symbolOf i (some a) = .bit b) :
    a ≤ 90 ∧ usedIdx i = true ∧ bitOfAge a = b := by
  rcases lt_or_ge 90 a with ha | ha
  · rw [symbolOf_late ha] at h
    cases h
  by_cases hi : usedIdx i = true
  · rw [symbolOf_used ha hi] at h
    exact ⟨ha, hi, Symbol.bit.inj h⟩
  · rw [symbolOf_unused ha hi] at h
    cases h

end

/-- At a used index the accumulator takes in the bit of the comparator (41_edge_timing_decoder.md R155, R156). -/
theorem shiftedAtEnd_toNat {s : State} (hi : usedIdx s.idx = true) :
    (shiftedAtEnd s).toNat = (2 * s.shreg.toNat + (bitOfAge (s.elapsed s.t0)).toNat) % 2 ^ 16 := by
  rw [shiftedAtEnd, if_pos ((usedIdx_iff _).1 hi), BitVec.toNat_ofNat, bitOfAge_toNat]

/-! ### The row that decides the phase -/

/-- Of the operations that make a move one decides the phase (30_encoding.md R99). -/
theorem Move.countP_decidesPhase {s u : State} (hm : Move s u) : (selected s).countP decidesPhase = 1 := by
  cases hm with
  | idleWait hp hs => rw [selected_idleWait hp hs]; rfl
  | read hp hs hv => rw [selected_read hp hs hv]; rfl
  | reject hp hc => rw [selected_rateReject hp hc]; rfl
  | accept hp hc => rw [selected_stamp hp hc]; rfl
  | wakeHold hp he => rw [selected_wakeHold hp he]; rfl
  | lineRelease hp he => rw [selected_lineRelease hp he]; rfl
  | releaseWait hp he => rw [selected_releaseWait hp he]; rfl
  | loopEnter hp he => rw [selected_loopEnter hp he]; rfl
  | ivlStart hp => rw [selected_ivlStart hp]; rfl
  | timeout hp he => rw [selected_timeoutAbort hp he]; rfl
  | pollWait hp he hl => rw [selected_pollWait hp he hl]; rfl
  | advance he | exit he =>
    rw [selected_of_endsHere he]
    split_ifs <;> rfl
  | wrongChecksum hp hc => rw [selected_csumFail hp hc]; rfl
  | deliver hp hc => rw [selected_assemble hp hc]; rfl
  | complete hp => rw [selected_complete hp]; rfl

/-- The premise on the command (70_reset_and_hazards.md R243) leaves out exactly the command for an invalid pin. -/
theorem pinUsable_iff {s : State} :
    pinUsable s = true ↔ ¬(s.phase = .idle ∧ s.start = true ∧ s.pinId ∉ s.params.validPins) := by
  simp [pinUsable, State.busy, State.validPin_eq, imp_iff_not_or, or_assoc, or_left_comm]

/-! ### A frame taken whole -/

theorem lastAge_toNat (c : Byte) (free : Nat) :
    (lastAge c free).toNat = if c.toNat % 2 = 1 then 31 + free % 60 else free % 31 := by
  have hbit : c.getLsbD 0 = decide (c.toNat % 2 = 1) := Nat.testBit_zero _
  simp only [lastAge, hbit, decide_eq_true_eq, Config.tThresh, Config.tTimeout]
  split_ifs
  · exact Nat.mod_eq_of_lt (by omega : 31 + free % 60 < 128)
  · exact Nat.mod_eq_of_lt (by omega : free % 31 < 128)

/-- The age of the last half-interval is one in time, and that of the last bit (30_encoding.md R93). -/
theorem lastAge_spec (c : Byte) (free : Nat) :
    (lastAge c free).toNat ≤ 90 ∧ (30 < (lastAge c free).toNat ↔ c.toNat % 2 = 1) := by
  rw [lastAge_toNat]
  split_ifs <;> omega

end Sys2Proof.Machine

open Sys2Proof Sys2Proof.Machine

/-- Settles O4: outside `IDLE` the two steps have inputs that agree on all that the phase reads. -/
theorem busyBlockIgnoresStartAndPin : Obligations.BusyBlockIgnoresStartAndPin := by
  intro s i r b k hp hs
  have halike : ReadAlike s.phase i { i with start := b, pinId := k } :=
    ⟨rfl, rfl, fun h => absurd h hp, fun h => absurd h hp, fun _ => rfl⟩
  calc step (s.given { i with start := b, pinId := k } r) = step (s.given i r) := step_given_of_readAlike halike
    _ = step s := by rw [State.given_eq_self hs]

/-- Settles O18, by the rows of a poll that ends a half-interval, with the index as a signed number. -/
theorem intervalEndSelectsByIndex : Obligations.IntervalEndSelectsByIndex := by
  intro s hp he hl
  have h31 : s.idx.toInt = 31 ↔ s.idx = 31 := BitVec.toInt_inj (y := 31)
  have h63 : s.idx.toInt = 63 ↔ s.idx = 63 := BitVec.toInt_inj (y := 63)
  have h79 : s.idx.toInt = 79 ↔ s.idx = 79 := BitVec.toInt_inj (y := 79)
  rw [selected_of_endsHere ⟨hp, he, hl⟩]
  simp only [usedIdx_iff, h31, h63, h79]

/-- Settles O20: the code by its three cases, and the accumulator of the step that ends the half-interval. -/
theorem bitSymbolCodeIsTheOneShiftedIn : Obligations.BitSymbolCodeIsTheOneShiftedIn := by
  refine ⟨fun i => rfl, fun i a => symbolOf_late, fun i a ha h0 hodd => ?used, fun i a ha hi => ?unused, ?shifted⟩
  case used => rw [symbolOf_used ha ((usedIdx_iff i).2 ⟨h0, hodd⟩), bitOfAge_eq]
  case unused =>
    refine symbolOf_unused ha (fun hu => ?_)
    obtain ⟨h0, hodd⟩ := (usedIdx_iff i).1 hu
    omega
  case shifted =>
    intro s t b ho hp hl hb hi hstep
    obtain ⟨he, hu, rfl⟩ := of_symbolOf_eq_bit hb
    have h63 : s.idx ≠ 63 := fun h => hi (by rw [h]; rfl)
    rw [step_of_endsHere ho ⟨hp, he, hl⟩] at hstep
    cases hstep
    rw [State.advance_shreg, endedHalf, if_neg h63, shiftedAtEnd_toNat hu]

/-- Settles O34: unless the command names no valid pin there is a move, and its operations hold one that decides the phase. -/
theorem everyStepHasExactlyOneSuccessor : Obligations.EveryStepHasExactlyOneSuccessor := by
  refine fun s => ⟨fun hpin => ?_, selected_invalidPin⟩
  obtain ⟨u, hu⟩ := exists_move (pinUsable_iff.1 hpin)
  exact ⟨hu.countP_decidesPhase, fun ho => ⟨_, step_of_move ho hu⟩⟩

/-- Settles O27, by the registers after a frame taken whole. -/
theorem frameLandsInItsRegisters : Obligations.FrameLandsInItsRegisters := by
  intro h t c s
  obtain ⟨hage, hbit⟩ := lastAge_spec c (Config.freeAge s.tick)
  exact ⟨frameTaken h t c s, exec_frame h t c s, rfl, BitVec.toNat_setWidth_of_le (by decide), rfl, hage, hbit,
    Nat.mod_lt _ (Nat.two_pow_pos _)⟩

end

section
/-! The one-step statements of 40_transaction_driver.md: the rows of a phase are those the table of 30_encoding.md R99 gives to it,
and each operation of the driver is its writes. -/

namespace Sys2Proof.Machine

open Sys2Proof

/-- A step performs rows of its own phase only (30_encoding.md R99). -/
theorem tablePhase_of_mem_selected {i : Instr} {s : State} (h : i ∈ selected s) : tablePhase i = some s.phase :=
  ((mem_rowsOf_seqOf s.phase s.idx i).1 (List.mem_filter.1 h).1).1

theorem exec_read_of_valid {s : State} (hv : s.pinId ∈ s.params.validPins) :
    exec .read s = .next { s with pin := s.pinId, phase := .ratecheck } :=
  if_pos (by simpa [State.validPin_eq] using hv)

theorem exec_read_of_invalid {s : State} (hv : s.pinId ∉ s.params.validPins) :
    exec .read s = .refused (.invalidPin s.pinId) :=
  if_neg (by simpa [State.validPin_eq] using hv)

/-- Failure entry outside the critical section writes two elements (60_exceptions.md R207). -/
theorem State.raiseFailure_of_crit {s : State} {k : Status} (hc : s.crit = false) :
    s.raiseFailure k = { s with status := k, phase := .done } := by
  rw [State.raiseFailure_eq, ← hc]

end Sys2Proof.Machine

open Sys2Proof Sys2Proof.Machine Sys2Proof.Safety

/-- Settles O3, by the rows of `IDLE` on each command; another phase has other rows. -/
theorem idleStepWaitsOrAcceptsTheCommand : Obligations.IdleStepWaitsOrAcceptsTheCommand := by
  refine fun s => ⟨fun hp hs => ⟨selected_idleWait hp hs, rfl⟩,
    fun hp hs hv => ⟨selected_read hp hs hv, exec_read_of_valid hv⟩,
    fun hp hs hv => ⟨exec_read_of_invalid hv, fun ho => step_of_invalidPin ho hp hs hv⟩, fun hp => ⟨?_, ?_⟩⟩
  · exact fun hmem => hp (Option.some.inj (tablePhase_of_mem_selected hmem)).symm
  · exact fun hmem => hp (Option.some.inj (tablePhase_of_mem_selected hmem)).symm

/-- Settles O6: failure entry clears `CRIT`, which the invariants have at 0 outside the loop. -/
theorem tooEarlyAttemptIsRateLimited : Obligations.TooEarlyAttemptIsRateLimited := by
  intro s h hp
  have hcrit : s.crit = false := h.crit_eq_false (by rw [hp]; rfl)
  refine ⟨fun hc => ⟨selected_rateReject hp hc, congrArg _ (State.raiseFailure_of_crit hcrit)⟩, fun hc => ?_⟩
  rw [selected_stamp hp hc]
  decide

/-- Settles O7, by the rows of an attempt that is not too soon and the writes of each. -/
theorem acceptedAttemptIsStampedAndDrivesLow : Obligations.AcceptedAttemptIsStampedAndDrivesLow :=
  fun _ => ⟨selected_stamp, rfl, rfl⟩

/-- Settles O8, by the row of `WAKE` before and after the end of the pulse. -/
theorem wakePulseHoldsThenReleasesTheLine : Obligations.WakePulseHoldsThenReleasesTheLine :=
  fun _ => ⟨selected_wakeHold, selected_lineRelease, rfl, rfl⟩

/-- Settles O9, by the rows of `RELEASE` before and after the end of the wait; the first index is −3 as a signed number. -/
theorem releaseWaitEndsInTheDecodeLoop : Obligations.ReleaseWaitEndsInTheDecodeLoop :=
  fun _ => ⟨selected_releaseWait, selected_loopEnter, rfl, ⟨_, rfl, rfl, eq_iFirst_iff.1 rfl⟩, rfl⟩

/-- Settles O10: `DONE` has one row, and the port `done` names the phase. -/
theorem doneLastsOneStep : Obligations.DoneLastsOneStep :=
  fun _ => ⟨fun hp => ⟨selected_complete hp, decide_eq_true hp⟩, rfl⟩

end

section
/-! Runs by the stimuli that they use up (00_scope.md R11; log 1): the rules of a run of one step, of runs one after another, and of
steps that wait; with them the rejected attempt (40_transaction_driver.md R132, R121). -/

namespace Sys2Proof.Machine

open Sys2Proof

/-! ### Elapsed times on a clock of `TS_W` bits -/

/-- An elapsed time reads the low bits of the clock only (00_scope.md R10). -/
theorem elapsedAt_mod_now (tsW t now : Nat) : elapsedAt tsW t (now % 2 ^ tsW) = elapsedAt tsW t now :=
  Nat.mod_add_mod _ _ _

/-- An elapsed time reads the low bits of the recorded time only (00_scope.md R10). -/
theorem elapsedAt_mod_recorded (tsW t now : Nat) : elapsedAt tsW (t % 2 ^ tsW) now = elapsedAt tsW t now := by
  rw [elapsedAt, Nat.mod_mod, elapsedAt]

/-! ### The inputs at the head of the script -/

section
variable {s : State} {i : Inputs} {l : List Stimulus} (hs : s.script = .tick i :: l)
include hs

theorem State.inputs_of_script : s.inputs = i := (State.inputs_tick hs).1

theorem State.ordinary_of_script (he : s.params.enable = true) (hr : i.rst = false) : s.ordinary = true :=
  State.ordinary_iff.2 ⟨he, (State.inputs_tick hs).2.1, by rw [State.rst, State.inputs_of_script hs, hr]⟩

theorem State.start_of_script : s.start = i.start := by rw [State.start, State.inputs_of_script hs]

theorem State.pinId_of_script : s.pinId = i.pinId % 2 ^ s.params.pinW := by rw [State.pinId, State.inputs_of_script hs]

theorem State.now_of_script : s.now = i.now % 2 ^ s.params.tsW := by rw [State.now, State.inputs_of_script hs]

theorem State.gpioIn_of_script : s.gpioIn = i.gpioIn := by rw [State.gpioIn, State.inputs_of_script hs]

theorem State.elapsed_of_script (t : Nat) : s.elapsed t = elapsedAt s.params.tsW t i.now := by
  rw [State.elapsed, State.now_of_script hs, elapsedAt_mod_now]

end

/-! ### Runs -/

/-- From `s` the stimuli `l` lead to `t`, which faces those that come after them. -/
structure Plays (l : List Stimulus) (s t : State) : Prop where
  run : Host.Core.run core l.length s = .next t
  script : s.script = l ++ t.script

theorem Plays.nil (s : State) : Plays [] s s := ⟨rfl, rfl⟩

theorem Plays.append {l m : List Stimulus} {s t u : State} (h : Plays l s t) (h' : Plays m t u) : Plays (l ++ m) s u where
  run := by rw [List.length_append, run_add h.run, h'.run]
  script := by rw [h.script, h'.script, List.append_assoc]

/-- The registers of `s` at the start of step number `k`, with the stimuli `l` to come. -/
def State.facing (s : State) (l : List Stimulus) (k : Nat) : State :=
  { s with script := l, tick := k, wires := Wires.idle }

/-- A move leaves the stimuli and the number of the step to the passage to the next one. -/
theorem Move.keeps_script {s u : State} (hm : Move s u) : u.script = s.script ∧ u.tick = s.tick := by
  cases hm <;> exact ⟨rfl, rfl⟩

section
variable {s u : State} {i : Inputs} {l : List Stimulus} (hs : s.script = .tick i :: l) (he : s.params.enable = true)
  (hr : i.rst = false)
include hs he hr

/-- A step on the inputs `i` makes the move of its phase. -/
theorem Plays.move (hm : Move s u) : Plays [.tick i] s (u.facing l (s.tick + 1)) := by
  obtain ⟨hscript, htick⟩ := hm.keeps_script
  have hnext : u.advance = u.facing l (s.tick + 1) := by rw [State.advance, State.facing, hscript, htick, hs, List.tail_cons]
  exact ⟨run_one (hnext ▸ step_of_move (State.ordinary_of_script hs he hr) hm), hs⟩

/-- The READ step (40_transaction_driver.md R120). -/
theorem Plays.read (hp : s.phase = .idle) (hstart : i.start = true) (hv : i.pinId % 2 ^ s.params.pinW ∈ s.params.validPins) :
    Plays [.tick i] s ({ s with pin := i.pinId % 2 ^ s.params.pinW, phase := .ratecheck }.facing l (s.tick + 1)) := by
  have hpin := State.pinId_of_script hs
  rw [← hpin] at hv ⊢
  exact .move hs he hr (.read hp ((State.start_of_script hs).trans hstart) hv)

/-- The RATECHECK step of an attempt that comes too soon (40_transaction_driver.md R121). -/
theorem Plays.reject (hp : s.phase = .ratecheck) (hc : s.lastValid = true ∧ elapsedAt s.params.tsW s.lastTs i.now < 2000000) :
    Plays [.tick i] s ({ s with status := .rateLimited, crit := false, phase := .done }.facing l (s.tick + 1)) := by
  rw [← State.elapsed_of_script hs] at hc
  exact .move hs he hr (.reject hp hc)

/-- The RATECHECK step of an accepted attempt (40_transaction_driver.md R122, R123). -/
theorem Plays.accept (hp : s.phase = .ratecheck) (hc : ¬(s.lastValid = true ∧ elapsedAt s.params.tsW s.lastTs i.now < 2000000)) :
    Plays [.tick i] s ({ s with
      lastTs := i.now % 2 ^ s.params.tsW, lastValid := true, gpioOut := .low, gpioDir := true
      t0 := i.now % 2 ^ s.params.tsW, phase := .wake }.facing l (s.tick + 1)) := by
  rw [← State.elapsed_of_script hs] at hc
  rw [← State.now_of_script hs]
  exact .move hs he hr (.accept hp hc)

/-- The WAKE step that ends the pulse (40_transaction_driver.md R125). -/
theorem Plays.lineRelease (hp : s.phase = .wake) (hc : 2000 ≤ elapsedAt s.params.tsW s.t0 i.now) :
    Plays [.tick i] s ({ s with
      gpioDir := false, t0 := i.now % 2 ^ s.params.tsW, phase := .release }.facing l (s.tick + 1)) := by
  rw [← State.elapsed_of_script hs] at hc
  rw [← State.now_of_script hs]
  exact .move hs he hr (.lineRelease hp hc)

/-- The RELEASE step that enters the decode loop (40_transaction_driver.md R126, R127). -/
theorem Plays.loopEnter (hp : s.phase = .release) (hc : 25 ≤ elapsedAt s.params.tsW s.t0 i.now) :
    Plays [.tick i] s ({ s with idx := -3, crit := true, shreg := 0, phase := .ivlStart }.facing l (s.tick + 1)) := by
  rw [← State.elapsed_of_script hs] at hc
  exact .move hs he hr (.loopEnter hp hc)

/-- The IVL_START step (41_edge_timing_decoder.md R150). -/
theorem Plays.ivlStart (hp : s.phase = .ivlStart) :
    Plays [.tick i] s ({ s with t0 := i.now % 2 ^ s.params.tsW, phase := .poll }.facing l (s.tick + 1)) := by
  rw [← State.now_of_script hs]
  exact .move hs he hr (.ivlStart hp)

/-- The DONE step (40_transaction_driver.md R130). -/
theorem Plays.complete (hp : s.phase = .done) : Plays [.tick i] s ({ s with phase := .idle }.facing l (s.tick + 1)) :=
  .move hs he hr (.complete hp)

end

/-- Steps on which the registers stay as they are. -/
theorem Plays.waits {s : State} {is : List Inputs} (he : s.params.enable = true) (hr : ∀ i ∈ is, i.rst = false)
    (hstay : ∀ i ∈ is, ∀ l k, Move (s.facing (.tick i :: l) k) (s.facing (.tick i :: l) k)) (l : List Stimulus) (k : Nat) :
    Plays (is.map .tick) (s.facing (is.map .tick ++ l) k) (s.facing l (k + is.length)) := by
  induction is generalizing k with
  | nil => exact Plays.nil _
  | cons i is ih =>
    obtain ⟨hri, hr⟩ := List.forall_mem_cons.1 hr
    obtain ⟨hi, hstay⟩ := List.forall_mem_cons.1 hstay
    rw [List.length_cons, Nat.add_comm is.length, ← Nat.add_assoc]
    have hfirst : Plays [.tick i] (s.facing (.tick i :: (is.map .tick ++ l)) k) (s.facing (is.map .tick ++ l) (k + 1)) :=
      .move (u := s.facing _ k) rfl he hri (hi _ k)
    exact hfirst.append (ih hr hstay (k + 1))

end Sys2Proof.Machine

open Sys2Proof Sys2Proof.Machine Sys2Proof.Safety

/-- Settles O54: READ, RATE_REJECT and COMPLETE, of which the first two write besides `PHASE`. -/
theorem rejectedAttemptTouchesNothing : Obligations.RejectedAttemptTouchesNothing := by
  intro s cmd check ret o rest h he hp hrcmd hrcheck hrret hstart hv hpin hnow hlast hearly hs
  have hpinMod : cmd.pinId % 2 ^ s.params.pinW = cmd.pinId := Nat.mod_eq_of_lt hpin
  have hsoon : elapsedAt s.params.tsW s.lastTs check.now < 2000000 := by
    rwa [elapsedAt, Nat.mod_eq_of_lt h.lastTsWidth]
  have hcrit : s.crit = false := h.crit_eq_false (by rw [hp]; rfl)
  have hread : Plays [.tick cmd] s
      ({ s with pin := cmd.pinId, phase := .ratecheck }.facing (.tick check :: .tick ret :: rest) (s.tick + 1)) := by
    rw [← hpinMod] at hv ⊢
    exact .read hs he hrcmd hp hstart hv
  have hreject := hread.append (.reject rfl he hrcheck rfl ⟨hlast, hsoon⟩)
  have hcomplete := hreject.append (.complete rfl he hrret rfl)
  refine ⟨_, hcomplete.run, ?_, if_pos ⟨hlast, hsoon⟩⟩
  simp only [State.facing, ← hcrit, ← hp, ← h.wiresIdle]
  rfl

end

section
/-! The decode loop over the half-intervals that a line makes (41_edge_timing_decoder.md R162, 30_encoding.md R95): one half-interval
as a run, and by induction the registers after any number of them that have ended in time. -/

namespace Sys2Proof.Machine

open Sys2Proof

/-! ### Sums of bits -/

/-- The bits of two sums, one after the other. -/
theorem fieldOf_add (b : Nat → Nat) (first m n : Nat) :
    fieldOf b first (m + n) = fieldOf b first m * 2 ^ n + fieldOf b (first + m) n := by
  induction n with
  | zero => simp [fieldOf]
  | succ n ih =>
    rw [← Nat.add_assoc, fieldOf_succ, ih, fieldOf_succ, pow_succ, Nat.add_assoc first]
    ring

theorem fieldOf_lt {b : Nat → Nat} (hb : ∀ k, b k ≤ 1) (first n : Nat) : fieldOf b first n < 2 ^ n := by
  induction n with
  | zero => simp [fieldOf]
  | succ n ih =>
    have := hb (first + n)
    rw [fieldOf_succ, pow_succ]
    omega

/-! ### The bits of a list of outcomes -/

theorem dataBit_le_one (o : List HalfOutcome) (k : Nat) : dataBit o k ≤ 1 := by
  unfold dataBit
  split
  · split <;> decide
  · decide

theorem HalfRun.outcome_inTime {r : HalfRun} (h : r.last ≤ 90) : r.outcome = .ended r.last := if_neg (not_lt.2 h)

theorem HalfRun.outcome_late {r : HalfRun} (h : 90 < r.last) : r.outcome = .never := if_pos h

/-- Bit `k` is read from the width of half-interval `2k + 1`, the list starting at −3. -/
theorem dataBit_map_outcome {rs : List HalfRun} {k : Nat} (hk : 2 * k + 4 < rs.length) (ht : rs[2 * k + 4].last ≤ 90) :
    dataBit (rs.map HalfRun.outcome) k = if 30 < rs[2 * k + 4].last then 1 else 0 := by
  rw [dataBit, List.getElem?_map, List.getElem?_eq_getElem hk, Option.map_some, HalfRun.outcome_inTime ht]
  rfl

theorem decodeOutcomes_inTime {rs : List HalfRun} (h : ∀ r ∈ rs, r.last ≤ 90) :
    decodeOutcomes (rs.map HalfRun.outcome) =
      some ⟨fieldOf (dataBit (rs.map HalfRun.outcome)) 0 16, fieldOf (dataBit (rs.map HalfRun.outcome)) 16 16,
        fieldOf (dataBit (rs.map HalfRun.outcome)) 32 8⟩ := by
  refine if_neg (fun hnever => ?_)
  obtain ⟨r, hr, hout⟩ := List.mem_map.1 (List.contains_iff_mem.1 hnever)
  rw [HalfRun.outcome_inTime (h r hr)] at hout
  cases hout

theorem decodeOutcomes_late {rs : List HalfRun} {r : HalfRun} (hr : r ∈ rs) (h : 90 < r.last) :
    decodeOutcomes (rs.map HalfRun.outcome) = none :=
  if_pos (List.contains_iff_mem.2 (HalfRun.outcome_late h ▸ List.mem_map_of_mem hr))

/-! ### One half-interval -/

/-- A poll that ends a half-interval makes the move of 41_edge_timing_decoder.md R161. -/
theorem Move.endedHalf {s : State} (h : endsHere s) : Move s (endedHalf s) := by
  by_cases hi : s.idx = 79
  · simpa [Machine.endedHalf, hi] using Move.exit h hi
  · simpa only [Machine.endedHalf, if_neg hi] using Move.advance h hi

/-- The inputs of the polls of half-interval `i` that find the line at the wait level. -/
def HalfRun.polls (i : BitVec 8) (r : HalfRun) : List Inputs :=
  r.waits.map (fun e => ⟨false, false, 0, r.start + e, waitLevel i⟩)

theorem HalfRun.script_eq (i : BitVec 8) (r : HalfRun) :
    r.script i = [quiet r.start r.level] ++ (r.polls i).map .tick ++ [quiet (r.start + r.last) r.level] := by
  simp [HalfRun.script, HalfRun.polls, quiet, Function.comp_def]

theorem HalfRun.fits_iff {tsW : Nat} {i : BitVec 8} {r : HalfRun} :
    r.fits tsW i = true ↔
      (∀ e ∈ r.waits, e ≤ 90) ∧ r.last < 2 ^ tsW ∧ (90 < r.last ∨ r.level ≠ waitLevel i) := by
  simp only [HalfRun.fits, Bool.and_eq_true, Bool.or_eq_true, List.all_eq_true, decide_eq_true_eq, and_assoc]
  rfl

/-- The registers of the polls of the half-interval `r`, after its IVL_START step. -/
def State.polling (s : State) (r : HalfRun) : State := { s with t0 := r.start % 2 ^ s.params.tsW, phase := .poll }

/-- The state before the last poll of the half-interval `r`, with the stimuli `l` to come after it. -/
def State.lastPoll (s : State) (r : HalfRun) (l : List Stimulus) : State :=
  (s.polling r).facing (quiet (r.start + r.last) r.level :: l) (s.tick + 1 + (r.polls s.idx).length)

section
variable {s : State} {r : HalfRun} {l : List Stimulus}

theorem State.lastPoll_elapsed (hlast : r.last < 2 ^ s.params.tsW) :
    (s.lastPoll r l).elapsed (s.lastPoll r l).t0 = r.last :=
  State.elapsed_add (State.now_of_script (s := s.lastPoll r l) rfl) hlast

variable (hs : s.script = r.script s.idx ++ l) (he : s.params.enable = true) (hw : 22 ≤ s.params.tsW)
  (hp : s.phase = .ivlStart) (hfit : r.fits s.params.tsW s.idx = true)
include hs he hw hp hfit

/-- IVL_START, and the polls that wait (41_edge_timing_decoder.md R150, R152). -/
theorem plays_lastPoll : Plays ([quiet r.start r.level] ++ (r.polls s.idx).map .tick) s (s.lastPoll r l) := by
  obtain ⟨hwaits, -, -⟩ := HalfRun.fits_iff.1 hfit
  have hwrap : 2 ^ 22 ≤ 2 ^ s.params.tsW := Nat.pow_le_pow_right (by decide) hw
  rw [HalfRun.script_eq, List.append_assoc, List.append_assoc, List.singleton_append] at hs
  refine (Plays.ivlStart hs he rfl hp).append (Plays.waits (s := s.polling r) he ?_ ?_ _ _)
  · intro i hi
    obtain ⟨e, -, rfl⟩ := List.mem_map.1 hi
    rfl
  · intro i hi l k
    obtain ⟨e, hmem, rfl⟩ := List.mem_map.1 hi
    have he90 := hwaits e hmem
    refine .pollWait rfl ?_ rfl
    have hnow := State.now_of_script (s := (s.polling r).facing (quiet (r.start + e) (waitLevel s.idx) :: l) k) rfl
    exact (State.elapsed_add hnow (show e < 2 ^ s.params.tsW by omega)).trans_le he90

/-- The half-interval ends in time. -/
theorem plays_half_inTime (ht : r.last ≤ 90) :
    Plays (r.script s.idx) s ((endedHalf (s.lastPoll r l)).facing l ((s.lastPoll r l).tick + 1)) := by
  obtain ⟨-, hlast, hlevel⟩ := HalfRun.fits_iff.1 hfit
  rw [HalfRun.script_eq]
  refine (plays_lastPoll hs he hw hp hfit).append (.move rfl he rfl (.endedHalf ⟨rfl, ?_, ?_⟩))
  · rwa [State.lastPoll_elapsed hlast]
  · exact hlevel.resolve_left (not_lt.2 ht)

/-- The half-interval is not seen to end in time (41_edge_timing_decoder.md R153). -/
theorem plays_half_late (ht : 90 < r.last) :
    Plays (r.script s.idx) s ({ s.lastPoll r l with status := .timeout, crit := false, phase := .done }.facing l
      ((s.lastPoll r l).tick + 1)) := by
  obtain ⟨-, hlast, -⟩ := HalfRun.fits_iff.1 hfit
  rw [HalfRun.script_eq]
  refine (plays_lastPoll hs he hw hp hfit).append (.move rfl he rfl (.timeout rfl ?_))
  rwa [State.lastPoll_elapsed hlast]

end

/-! ### The accumulator and the two latches -/

/-- The three registers after `m` bits `b` of a frame, from an accumulator `v`: the accumulator holds the last 16 bits, and after
bit 31 those of the checksum alone (41_edge_timing_decoder.md R156, R158, R159). -/
structure Gathered (v : Word) (b : Nat → Nat) (m : Nat) (shreg hum temp : Word) : Prop where
  shreg : shreg.toNat = if m < 32 then (v.toNat * 2 ^ m + fieldOf b 0 m) % 2 ^ 16 else fieldOf b 32 (m - 32)
  hum : 16 ≤ m → hum.toNat = fieldOf b 0 16
  temp : 32 ≤ m → temp.toNat = fieldOf b 16 16

section
variable {v : Word} {b : Nat → Nat} {m : Nat} {s : State}

theorem Gathered.init (v hum temp : Word) (b : Nat → Nat) : Gathered v b 0 v hum temp where
  shreg := by simp [fieldOf, Nat.mod_eq_of_lt v.isLt]
  hum h := absurd h (by decide)
  temp h := absurd h (by decide)

/-- A half-interval whose width is not used leaves the three registers as they are. -/
theorem Gathered.unused (h : Gathered v b m s.shreg s.rawHum s.rawTemp) (hi : ¬usedIdx s.idx = true) :
    Gathered v b m (endedHalf s).shreg (endedHalf s).rawHum (endedHalf s).rawTemp := by
  have h31 : s.idx ≠ 31 := fun he => hi (by rw [he]; decide)
  have h63 : s.idx ≠ 63 := fun he => hi (by rw [he]; decide)
  have hshift : shiftedAtEnd s = s.shreg := if_neg (mt (usedIdx_iff _).2 hi)
  simpa only [endedHalf, if_neg h31, if_neg h63, hshift] using h

section
variable (hi : s.idx.toInt = 2 * m + 1) (hbit : (if 30 < s.elapsed s.t0 then 1 else 0) = b m)
include hi hbit

theorem shiftedAtEnd_toNat_of_bit : (shiftedAtEnd s).toNat = (2 * s.shreg.toNat + b m) % 2 ^ 16 := by
  rw [shiftedAtEnd_toNat ((usedIdx_iff _).2 (by omega)), bitOfAge_toNat, hbit]

variable (h : Gathered v b m s.shreg s.rawHum s.rawTemp)
include h

/-- A bit of the two fields pushes the oldest of the 16 bits out. -/
theorem Gathered.shifted_field (hm : m < 32) :
    (shiftedAtEnd s).toNat = (v.toNat * 2 ^ (m + 1) + fieldOf b 0 (m + 1)) % 2 ^ 16 := by
  rw [shiftedAtEnd_toNat_of_bit hi hbit, h.shreg, if_pos hm, fieldOf_succ, pow_succ 2 m, Nat.zero_add, ← Nat.mul_assoc]
  omega

variable (hb : ∀ k, b k ≤ 1)
include hb

/-- A bit of the checksum is added to those before it; none is pushed out. -/
theorem Gathered.shifted_checksum (hm : 32 ≤ m) (hm40 : m < 40) : (shiftedAtEnd s).toNat = fieldOf b 32 (m + 1 - 32) := by
  have hnext : fieldOf b 32 (m + 1 - 32) = 2 * fieldOf b 32 (m - 32) + b m := by
    rw [Nat.sub_add_comm hm, fieldOf_succ, Nat.add_sub_cancel' hm]
  have hfits : fieldOf b 32 (m + 1 - 32) < 2 ^ 16 :=
    (fieldOf_lt hb 32 _).trans_le (Nat.pow_le_pow_right (by decide) (by omega))
  rw [shiftedAtEnd_toNat_of_bit hi hbit, h.shreg, if_neg (not_lt.2 hm), ← hnext, Nat.mod_eq_of_lt hfits]

/-- The half-interval of bit `m` shifts that bit in, and at the ends of the two fields takes them from the accumulator. -/
theorem Gathered.used (hm40 : m < 40) : Gathered v b (m + 1) (endedHalf s).shreg (endedHalf s).rawHum (endedHalf s).rawTemp := by
  have hend (x : BitVec 8) : s.idx = x ↔ (2 * m + 1 : Int) = x.toInt := by rw [← BitVec.toInt_inj, hi]
  have h31 : s.idx = 31 ↔ m = 15 := (hend 31).trans (show (2 * m + 1 : Int) = 31 ↔ m = 15 by omega)
  have h63 : s.idx = 63 ↔ m = 31 := (hend 63).trans (show (2 * m + 1 : Int) = 63 ↔ m = 31 by omega)
  refine ⟨?shreg, fun hge => ?hum, fun hge => ?temp⟩
  case shreg =>
    simp only [endedHalf, h63]
    rcases lt_trichotomy m 31 with hlt | rfl | hgt
    · rw [if_neg (by omega), if_pos (by omega), h.shifted_field hi hbit (by omega)]
    · rfl
    · rw [if_neg (by omega), if_neg (by omega), h.shifted_checksum hi hbit hb (by omega) hm40]
  case hum =>
    simp only [endedHalf, h31]
    split_ifs with h15
    · subst h15
      exact (h.shifted_field hi hbit (by decide)).trans (Nat.mul_add_mod_of_lt (fieldOf_lt hb 0 16))
    · exact h.hum (by omega)
  case temp =>
    simp only [endedHalf, h63]
    split_ifs with h31
    · subst h31
      have hsplit : v.toNat * 2 ^ 32 + fieldOf b 0 32 = (v.toNat * 2 ^ 16 + fieldOf b 0 16) * 2 ^ 16 + fieldOf b 16 16 := by
        rw [fieldOf_add b 0 16 16]
        ring
      rw [h.shifted_field hi hbit (by decide), hsplit, Nat.mul_add_mod_of_lt (fieldOf_lt hb 16 16)]
    · exact h.temp (by omega)

end

/-- Half-interval number `n` of a frame, counted from 0: those with an even number from 4 on carry the bits. -/
theorem Gathered.half {n : Nat} (hb : ∀ k, b k ≤ 1) (h : Gathered v b ((n - 3) / 2) s.shreg s.rawHum s.rawTemp) (hn : n < 83)
    (hi : s.idx.toInt = n - 3) (hbit : ∀ k, n = 2 * k + 4 → (if 30 < s.elapsed s.t0 then 1 else 0) = b k) :
    Gathered v b ((n + 1 - 3) / 2) (endedHalf s).shreg (endedHalf s).rawHum (endedHalf s).rawTemp := by
  have hused := usedIdx_iff s.idx
  rw [hi] at hused
  by_cases hu : usedIdx s.idx = true
  · obtain ⟨h0, hodd⟩ := hused.1 hu
    rw [show (n + 1 - 3) / 2 = (n - 3) / 2 + 1 by omega]
    exact h.used (by omega) (hbit _ (by omega)) hb (by omega)
  · have heven := mt hused.2 hu
    rw [show (n + 1 - 3) / 2 = (n - 3) / 2 by omega]
    exact h.unused hu

end

/-! ### Any number of half-intervals -/

/-- The index of half-interval number `n` of a frame, −3 for number 0 (41_edge_timing_decoder.md R162). -/
def loopIdx (n : Nat) : BitVec 8 := Config.iFirst + BitVec.ofNat 8 n

theorem loopIdx_toInt : ∀ n < 83, (loopIdx n).toInt = n - 3 := by decide

theorem loopIdx_succ (n : Nat) : loopIdx n + 1 = loopIdx (n + 1) := by
  rw [loopIdx, loopIdx, BitVec.add_assoc, BitVec.ofNat_add]
  rfl

theorem loopIdx_eq_last_iff {n : Nat} (hn : n < 83) : loopIdx n = 79 ↔ n = 82 := by
  rw [← BitVec.toInt_inj, loopIdx_toInt n hn, show (79 : BitVec 8).toInt = 79 from rfl]
  omega

/-- The state after `n` half-intervals of the loop that starts in `s` have ended in time, with data bits `b`. -/
structure LoopAt (s : State) (b : Nat → Nat) (n : Nat) (t : State) : Prop where
  idx : t.idx = loopIdx (min n 82)
  gathered : Gathered s.shreg b ((n - 3) / 2) t.shreg t.rawHum t.rawTemp
  frame : t = { s with
    phase := if n = 83 then .validate else .ivlStart
    crit := if n = 83 then false else s.crit
    idx := t.idx, t0 := t.t0, age := t.age, shreg := t.shreg, rawHum := t.rawHum, rawTemp := t.rawTemp
    wires := t.wires, script := t.script, tick := t.tick }

theorem LoopAt.keeps {s t : State} {b : Nat → Nat} {n : Nat} (h : LoopAt s b n t) :
    t.params = s.params ∧ t.out = s.out ∧ t.status = s.status ∧ t.pin = s.pin ∧ t.gpioDir = s.gpioDir ∧
      t.lastTs = s.lastTs ∧ t.lastValid = s.lastValid := by
  rw [h.frame]
  exact ⟨rfl, rfl, rfl, rfl, rfl, rfl, rfl⟩

theorem LoopAt.idx_eq {s t : State} {b : Nat → Nat} {n : Nat} (h : LoopAt s b n t) (hn : n < 83) : t.idx = loopIdx n := by
  rw [h.idx, Nat.min_eq_left (Nat.le_of_lt_succ hn)]

theorem LoopAt.phase_eq {s t : State} {b : Nat → Nat} {n : Nat} (h : LoopAt s b n t) :
    t.phase = if n = 83 then .validate else .ivlStart := congrArg State.phase h.frame

theorem LoopAt.crit_eq {s t : State} {b : Nat → Nat} {n : Nat} (h : LoopAt s b n t) :
    t.crit = if n = 83 then false else s.crit := congrArg State.crit h.frame

theorem LoopAt.init {s : State} {b : Nat → Nat} (hp : s.phase = .ivlStart) (hi : s.idx = Config.iFirst) : LoopAt s b 0 s where
  idx := hi.trans (BitVec.add_zero _).symm
  gathered := .init ..
  frame := by rw [if_neg (by decide), if_neg (by decide), ← hp]

/-- One more half-interval; at an odd index that is not negative its width decides the next bit. -/
theorem LoopAt.succ {s t : State} {b : Nat → Nat} {n : Nat} {r : HalfRun} {l : List Stimulus} (hb : ∀ k, b k ≤ 1)
    (h : LoopAt s b n t) (hn : n < 83) (hlast : r.last < 2 ^ t.params.tsW)
    (hbit : ∀ k, n = 2 * k + 4 → (if 30 < r.last then 1 else 0) = b k) :
    LoopAt s b (n + 1) ((endedHalf (t.lastPoll r l)).facing l ((t.lastPoll r l).tick + 1)) := by
  have hidx := h.idx_eq hn
  have hint : (t.lastPoll r l).idx.toInt = n - 3 := (congrArg BitVec.toInt hidx).trans (loopIdx_toInt n hn)
  have hexit : t.idx = 79 ↔ n + 1 = 83 := by rw [hidx, loopIdx_eq_last_iff hn, Nat.succ_inj]
  refine ⟨?idx, ?gathered, ?frame⟩
  case idx =>
    show (if t.idx = 79 then t.idx else t.idx + 1) = _
    rw [if_congr hexit rfl rfl, hidx]
    split_ifs with h82
    · obtain rfl : n = 82 := by omega
      rfl
    · rw [loopIdx_succ, Nat.min_eq_left (by omega)]
  case gathered =>
    refine Gathered.half hb h.gathered hn hint (fun k hk => ?_)
    rw [State.lastPoll_elapsed hlast, hbit k hk]
  case frame =>
    have hphase : (endedHalf (t.lastPoll r l)).phase = if n + 1 = 83 then .validate else .ivlStart :=
      if_congr hexit rfl rfl
    have hloop : t.crit = s.crit := h.crit_eq.trans (if_neg hn.ne)
    have hcrit : (endedHalf (t.lastPoll r l)).crit = if n + 1 = 83 then false else s.crit :=
      if_congr hexit rfl hloop
    rw [← hphase, ← hcrit, h.frame]
    rfl

/-- The script of one half-interval more. -/
theorem loopScript_take_succ {rs : List HalfRun} {n : Nat} (hn : n < rs.length) :
    loopScript Config.iFirst (rs.take (n + 1)) = loopScript Config.iFirst (rs.take n) ++ rs[n].script (loopIdx n) := by
  rw [← List.take_append_getElem hn, loopScript_append, List.length_take, Nat.min_eq_left hn.le, loopScript, loopScript,
    List.append_nil, loopIdx]

/-- Each half-interval of a list fits its own index. -/
theorem fits_of_loopFits {tsW : Nat} {i : BitVec 8} {rs : List HalfRun} (h : loopFits tsW i rs = true) {n : Nat}
    (hn : n < rs.length) : rs[n].fits tsW (i + BitVec.ofNat 8 n) = true := by
  induction rs generalizing i n with
  | nil => cases hn
  | cons r rs ih =>
    obtain ⟨hr, hrs⟩ := Bool.and_eq_true_iff.1 h
    cases n with
    | zero => simpa using hr
    | succ n =>
      have hidx : i + BitVec.ofNat 8 (n + 1) = i + 1 + BitVec.ofNat 8 n := by
        rw [Nat.add_comm n, BitVec.ofNat_add, ← BitVec.add_assoc]
        rfl
      rw [hidx]
      exact ih hrs (Nat.lt_of_succ_lt_succ hn)

section
variable {s : State} {rs : List HalfRun} {rest : List Stimulus} (hs : s.script = loopScript Config.iFirst rs ++ rest)
include hs

/-- After the stimuli of the first `n` half-intervals come those of the others. -/
theorem Plays.script_of_take {t : State} {n : Nat} (h : Plays (loopScript Config.iFirst (rs.take n)) s t) (hn : n ≤ rs.length) :
    t.script = loopScript (loopIdx n) (rs.drop n) ++ rest := by
  have hall := h.script
  rw [hs, ← List.take_append_drop n rs, loopScript_append, List.take_append_drop, List.length_take, Nat.min_eq_left hn,
    List.append_assoc] at hall
  exact (List.append_cancel_left hall).symm

variable (he : s.params.enable = true) (hw : 22 ≤ s.params.tsW) (hfit : loopFits s.params.tsW Config.iFirst rs = true)
include he hw hfit

/-- The half-interval number `n` as it falls to the state that the earlier ones have led to. -/
theorem LoopAt.next_fits {b : Nat → Nat} {n : Nat} {t : State} (h : LoopAt s b n t) (hn : n < rs.length) (h83 : n < 83)
    (hplays : Plays (loopScript Config.iFirst (rs.take n)) s t) :
    t.script = rs[n].script t.idx ++ (loopScript (loopIdx (n + 1)) (rs.drop (n + 1)) ++ rest) ∧
      t.params.enable = true ∧ 22 ≤ t.params.tsW ∧ t.phase = .ivlStart ∧ rs[n].fits t.params.tsW t.idx = true := by
  have hidx := h.idx_eq h83
  obtain ⟨hparams, -⟩ := h.keeps
  refine ⟨?_, hparams ▸ he, hparams ▸ hw, h.phase_eq.trans (if_neg h83.ne), ?_⟩
  · rw [hplays.script_of_take hs hn.le, List.drop_eq_getElem_cons hn, loopScript, loopIdx_succ, hidx, List.append_assoc]
  · rw [hparams, hidx]
    exact fits_of_loopFits hfit hn

variable (hp : s.phase = .ivlStart) (hi : s.idx = Config.iFirst)
include hp hi

/-- The loop after its first `n` half-intervals, where they have ended in time. -/
theorem plays_loop {n : Nat} (hn : n ≤ rs.length) (h83 : n ≤ 83) (ht : ∀ r ∈ rs.take n, r.last ≤ 90) :
    ∃ t, Plays (loopScript Config.iFirst (rs.take n)) s t ∧ LoopAt s (dataBit (rs.map HalfRun.outcome)) n t := by
  induction n with
  | zero => exact ⟨s, .nil s, .init hp hi⟩
  | succ n ih =>
    rw [← List.take_append_getElem hn, List.forall_mem_append, List.forall_mem_singleton] at ht
    obtain ⟨htake, hlast⟩ := ht
    obtain ⟨t, hplays, hat⟩ := ih (Nat.le_of_lt hn) (Nat.le_of_lt h83) htake
    obtain ⟨hts, hte, htw, htp, htf⟩ := hat.next_fits hs he hw hfit hn h83 hplays
    have hhalf := hplays.append (plays_half_inTime hts hte htw htp htf hlast)
    rw [hat.idx_eq h83, ← loopScript_take_succ hn] at hhalf
    refine ⟨_, hhalf, hat.succ (dataBit_le_one _) h83 (HalfRun.fits_iff.1 htf).2.1 ?_⟩
    rintro k rfl
    exact (dataBit_map_outcome hn hlast).symm

/-- The loop as far as half-interval number `n`, which is the first that does not end in time. -/
theorem plays_loop_late {n : Nat} (hn : n < rs.length) (h83 : n < 83) (ht : ∀ r ∈ rs.take n, r.last ≤ 90)
    (hlate : 90 < rs[n].last) :
    ∃ t l k, LoopAt s (dataBit (rs.map HalfRun.outcome)) n t ∧
      Plays (loopScript Config.iFirst (rs.take (n + 1))) s
        ({ t.lastPoll rs[n] l with status := .timeout, crit := false, phase := .done }.facing l k) := by
  obtain ⟨t, hplays, hat⟩ := plays_loop hs he hw hfit hp hi hn.le h83.le ht
  obtain ⟨hts, hte, htw, htp, htf⟩ := hat.next_fits hs he hw hfit hn h83 hplays
  have hhalf := hplays.append (plays_half_late hts hte htw htp htf hlate)
  rw [hat.idx_eq h83, ← loopScript_take_succ hn] at hhalf
  exact ⟨t, _, _, hat, hhalf⟩

end

end Sys2Proof.Machine
end

section
/-! A whole accepted attempt (40_transaction_driver.md R132): the steps up to the loop, the loop with its two ends, and the steps that
deliver the result. -/

namespace Sys2Proof.Machine

open Sys2Proof

/-! ### The two ends of the loop -/

theorem all_inTime_iff {rs : List HalfRun} : rs.all HalfRun.inTime = true ↔ ∀ r ∈ rs, r.last ≤ 90 := by
  simp only [List.all_eq_true, HalfRun.inTime, decide_eq_true_eq]
  rfl

/-- The ways in which the loop ends: all 83 half-intervals end in time, or the last one that is timed is the first that does not. -/
theorem loopEnds_cases {rs : List HalfRun} (h : loopEnds rs = true) :
    ((∀ r ∈ rs, r.last ≤ 90) ∧ rs.length = 83) ∨
      ∃ n, ∃ hn : n < rs.length, rs.length = n + 1 ∧ n < 83 ∧ (∀ r ∈ rs.take n, r.last ≤ 90) ∧ 90 < rs[n].last := by
  unfold loopEnds at h
  split at h
  next hall => exact .inl ⟨all_inTime_iff.1 hall, of_decide_eq_true h⟩
  next hlate =>
    obtain ⟨hlen, hinit⟩ := Bool.and_eq_true_iff.1 h
    have hlen : rs.length ≤ 83 := of_decide_eq_true hlen
    obtain ⟨n, hn⟩ : ∃ n, rs.length = n + 1 :=
      Nat.exists_eq_succ_of_ne_zero (fun h0 => hlate (by rw [List.eq_nil_of_length_eq_zero h0]; rfl))
    have hlt : n < rs.length := by omega
    rw [List.dropLast_eq_take, hn, Nat.add_sub_cancel, all_inTime_iff] at hinit
    refine .inr ⟨n, hlt, hn, by omega, hinit, ?_⟩
    by_contra hlast
    refine hlate (all_inTime_iff.2 ?_)
    rw [← List.take_of_length_le hn.le, ← List.take_append_getElem hlt]
    exact List.forall_mem_append.2 ⟨hinit, List.forall_mem_singleton.2 (not_lt.1 hlast)⟩

theorem Plays.script_rest {l rest : List Stimulus} {s t : State} (h : Plays l s t) (hs : s.script = l ++ rest) :
    t.script = rest :=
  List.append_cancel_left (h.script.symm.trans hs)

/-- What an attempt that stands at the start of its loop in `s` has come to when it is back in `IDLE`, if its half-intervals come
to `o`. -/
structure Concluded (s : State) (o : List HalfOutcome) (t : State) : Prop where
  phase : t.phase = .idle
  crit : t.crit = false
  result : t.result = validateBits (decodeOutcomes o)
  out : t.status ≠ .success → t.out = s.out
  pin : t.pin = s.pin
  gpioDir : t.gpioDir = s.gpioDir
  lastTs : t.lastTs = s.lastTs
  lastValid : t.lastValid = s.lastValid

/-- The VALIDATE step as a function of the three registers (42_checksum_assembler.md R186). -/
theorem plays_validate {s : State} {i : Inputs} {l : List Stimulus} (hs : s.script = .tick i :: l) (he : s.params.enable = true)
    (hr : i.rst = false) (hp : s.phase = .validate) (hcrit : s.crit = false) (hwf : Memory.wf s.out = true)
    (hbyte : s.shreg.toNat < 256) :
    ∃ k m, Plays [.tick i] s ({ s with status := k, out := m, phase := .done }.facing l (s.tick + 1)) ∧
      State.result { s with status := k, out := m } =
        validateBits (some ⟨s.rawHum.toNat, s.rawTemp.toNat, s.shreg.toNat⟩) ∧
      (k ≠ .success → m = s.out) := by
  have hreceived : s.shreg.toNat % 256 = s.shreg.toNat := Nat.mod_eq_of_lt hbyte
  have hagrees := State.checksumAgrees_iff (s := s)
  rw [hreceived] at hagrees
  by_cases hc : s.checksumAgrees = true
  · refine ⟨_, _, .move hs he hr (.deliver hp hc), ?_, fun hk => absurd rfl hk⟩
    obtain ⟨h0, h1, h2, h3, h4⟩ := Memory.bytes_writeFrame hwf s.rawHum s.rawTemp (loByte s.shreg)
    rw [validateBits, if_pos (hagrees.1 hc)]
    simp only [State.result, h0, h1, h2, h3, h4, hiByte_toNat, loByte_toNat, hreceived]
  · refine ⟨.checksumError, s.out, ?_, ?_, fun _ => rfl⟩
    · have hm := Plays.move hs he hr (.wrongChecksum hp hc)
      rwa [← hcrit] at hm
    · rw [validateBits, if_neg (mt hagrees.2 hc)]
      rfl

section
variable {s : State} {rs : List HalfRun} (he : s.params.enable = true) (hw : 22 ≤ s.params.tsW)
  (hfit : loopFits s.params.tsW Config.iFirst rs = true) (hp : s.phase = .ivlStart) (hi : s.idx = Config.iFirst)
include he hw hfit hp hi

/-- All 83 half-intervals end in time; VALIDATE and DONE follow. -/
theorem plays_conclusion_inTime {i j : Inputs} {l : List Stimulus}
    (hs : s.script = loopScript Config.iFirst rs ++ (.tick i :: .tick j :: l)) (hwf : Memory.wf s.out = true)
    (ht : ∀ r ∈ rs, r.last ≤ 90) (hlen : rs.length = 83) (hri : i.rst = false) (hrj : j.rst = false) :
    ∃ t, Plays (loopScript Config.iFirst rs ++ [.tick i] ++ [.tick j]) s t ∧ Concluded s (rs.map HalfRun.outcome) t := by
  have htake : rs.take 83 = rs := List.take_of_length_le hlen.le
  obtain ⟨t, hplays, hat⟩ := plays_loop hs he hw hfit hp hi hlen.ge le_rfl (htake.symm ▸ ht)
  rw [htake] at hplays
  have hchecksum : t.shreg.toNat = fieldOf (dataBit (rs.map HalfRun.outcome)) 32 8 := hat.gathered.shreg
  have hbyte : t.shreg.toNat < 256 := hchecksum.trans_lt (fieldOf_lt (dataBit_le_one _) 32 8)
  obtain ⟨hparams, hout, -, hpin, hdir, hts, hvalid⟩ := hat.keeps
  obtain ⟨k, m, hvalidate, hresult, hkeep⟩ :=
    plays_validate (hplays.script_rest hs) (hparams ▸ he) hri hat.phase_eq hat.crit_eq (hout ▸ hwf) hbyte
  refine ⟨_, (hplays.append hvalidate).append (.complete rfl (hparams ▸ he) hrj rfl), {
    phase := rfl, crit := hat.crit_eq, result := ?result, out := fun hk => (hkeep hk).trans hout
    pin := hpin, gpioDir := hdir, lastTs := hts, lastValid := hvalid }⟩
  case result =>
    rw [decodeOutcomes_inTime ht, ← hat.gathered.hum (by decide), ← hat.gathered.temp (by decide), ← hchecksum]
    exact hresult

/-- The last half-interval that is timed does not end in time; DONE follows. -/
theorem plays_conclusion_late {n : Nat} {j : Inputs} {l : List Stimulus}
    (hs : s.script = loopScript Config.iFirst rs ++ (.tick j :: l)) (hn : n < rs.length) (hlen : rs.length = n + 1) (h83 : n < 83)
    (ht : ∀ r ∈ rs.take n, r.last ≤ 90) (hlate : 90 < rs[n].last) (hrj : j.rst = false) :
    ∃ t, Plays (loopScript Config.iFirst rs ++ [.tick j]) s t ∧ Concluded s (rs.map HalfRun.outcome) t := by
  obtain ⟨t, l', k, hat, hplays⟩ := plays_loop_late hs he hw hfit hp hi hn h83 ht hlate
  rw [List.take_of_length_le hlen.le] at hplays
  obtain ⟨hparams, hout, -, hpin, hdir, hlast, hvalid⟩ := hat.keeps
  refine ⟨_, hplays.append (.complete (hplays.script_rest hs) (hparams ▸ he) hrj rfl), {
    phase := rfl, crit := rfl, result := ?result, out := fun _ => hout
    pin := hpin, gpioDir := hdir, lastTs := hlast, lastValid := hvalid }⟩
  case result =>
    rw [decodeOutcomes_late (List.getElem_mem hn) hlate]
    rfl

/-- From the start of the loop back to `IDLE`: VALIDATE has a step exactly if the loop ends without a timeout. -/
theorem plays_conclusion {closing : List Inputs} {l : List Stimulus}
    (hs : s.script = loopScript Config.iFirst rs ++ (closing.map .tick ++ l)) (hwf : Memory.wf s.out = true)
    (hends : loopEnds rs = true) (hlen : closing.length = if rs.all HalfRun.inTime then 2 else 1)
    (hr : ∀ i ∈ closing, i.rst = false) :
    ∃ t, Plays (loopScript Config.iFirst rs ++ closing.map .tick) s t ∧ Concluded s (rs.map HalfRun.outcome) t := by
  rcases loopEnds_cases hends with ⟨ht, h83⟩ | ⟨n, hn, hlast, h83, ht, hlate⟩
  · rw [if_pos (all_inTime_iff.2 ht)] at hlen
    obtain ⟨i, j, rfl⟩ := List.length_eq_two.1 hlen
    have := plays_conclusion_inTime he hw hfit hp hi hs hwf ht h83 (hr i (by simp)) (hr j (by simp))
    rwa [List.append_assoc] at this
  · rw [if_neg (fun hall => not_lt.2 (all_inTime_iff.1 hall _ (List.getElem_mem hn)) hlate)] at hlen
    obtain ⟨j, rfl⟩ := List.length_eq_one_iff.1 hlen
    exact plays_conclusion_late he hw hfit hp hi hs hn hlast h83 ht hlate (hr j (by simp))

end

/-! ### From the command to the loop -/

theorem AttemptRun.fits_iff {tsW : Nat} {r : AttemptRun} :
    r.fits tsW = true ↔
      (∀ i ∈ r.opening ++ r.closing, i.rst = false) ∧
      (∀ i ∈ r.holds, elapsedAt tsW r.check.now i.now < 2000) ∧ 2000 ≤ elapsedAt tsW r.check.now r.release.now ∧
      (∀ i ∈ r.waits, elapsedAt tsW r.release.now i.now < 25) ∧ 25 ≤ elapsedAt tsW r.release.now r.enter.now ∧
      loopFits tsW Config.iFirst r.halves = true ∧ loopEnds r.halves = true ∧
      r.closing.length = if r.halves.all HalfRun.inTime then 2 else 1 := by
  simp only [AttemptRun.fits, Bool.and_eq_true, List.all_eq_true, decide_eq_true_eq, Bool.not_eq_true', and_assoc]
  rfl

/-- The WAKE steps before the end of the pulse (40_transaction_driver.md R124). -/
theorem Plays.wakeHolds {s : State} {is : List Inputs} (he : s.params.enable = true) (hr : ∀ i ∈ is, i.rst = false)
    (hp : s.phase = .wake) (hc : ∀ i ∈ is, elapsedAt s.params.tsW s.t0 i.now < 2000) (l : List Stimulus) (k : Nat) :
    Plays (is.map .tick) (s.facing (is.map .tick ++ l) k) (s.facing l (k + is.length)) :=
  .waits he hr (fun i hi _ _ => .wakeHold hp ((State.elapsed_of_script rfl _).trans_lt (hc i hi))) l k

/-- The RELEASE steps before the end of the wait (40_transaction_driver.md R126). -/
theorem Plays.releaseWaits {s : State} {is : List Inputs} (he : s.params.enable = true) (hr : ∀ i ∈ is, i.rst = false)
    (hp : s.phase = .release) (hc : ∀ i ∈ is, elapsedAt s.params.tsW s.t0 i.now < 25) (l : List Stimulus) (k : Nat) :
    Plays (is.map .tick) (s.facing (is.map .tick ++ l) k) (s.facing l (k + is.length)) :=
  .waits he hr (fun i hi _ _ => .releaseWait hp ((State.elapsed_of_script rfl _).trans_lt (hc i hi))) l k

/-- The registers of `s` in `WAKE`, after the command and the rate check of the attempt `r`. -/
def State.pulsing (s : State) (r : AttemptRun) : State :=
  { s with
    pin := r.command.pinId % 2 ^ s.params.pinW, lastTs := r.check.now % 2 ^ s.params.tsW, lastValid := true
    gpioOut := .low, gpioDir := true, t0 := r.check.now % 2 ^ s.params.tsW, phase := .wake }

/-- The registers in `RELEASE`. -/
def State.released (s : State) (r : AttemptRun) : State :=
  { s.pulsing r with gpioDir := false, t0 := r.release.now % 2 ^ s.params.tsW, phase := .release }

/-- The registers at the start of the loop. -/
def State.looping (s : State) (r : AttemptRun) : State :=
  { s.released r with idx := -3, crit := true, shreg := 0, phase := .ivlStart }

/-- The steps of an accepted attempt up to its loop (40_transaction_driver.md R120 to R127). -/
theorem plays_opening {s : State} {r : AttemptRun} {l : List Stimulus} (hs : s.script = r.opening.map .tick ++ l)
    (he : s.params.enable = true) (hfits : r.fits s.params.tsW = true) (hp : s.phase = .idle)
    (hstart : r.command.start = true) (hv : r.command.pinId % 2 ^ s.params.pinW ∈ s.params.validPins)
    (hc : ¬(s.lastValid = true ∧ elapsedAt s.params.tsW s.lastTs r.check.now < 2000000)) :
    ∃ k, Plays (r.opening.map .tick) s ((s.looping r).facing l k) := by
  have hsplit : r.opening.map Stimulus.tick =
      [Stimulus.tick r.command] ++ [.tick r.check] ++ r.holds.map .tick ++ [.tick r.release] ++ r.waits.map .tick ++
        [.tick r.enter] := by
    simp [AttemptRun.opening]
  obtain ⟨hrst, hholds, hrelease, hwaits, henter, -⟩ := AttemptRun.fits_iff.1 hfits
  rw [List.forall_mem_append] at hrst
  obtain ⟨hrst, -⟩ := hrst
  simp only [AttemptRun.opening, List.forall_mem_append, List.forall_mem_cons] at hrst
  obtain ⟨⟨⟨⟨⟨hrcommand, hrcheck, -⟩, hrholds⟩, hrrelease, -⟩, hrwaits⟩, hrenter, -⟩ := hrst
  simp only [hsplit, List.append_assoc, List.singleton_append] at hs
  simp only [← elapsedAt_mod_recorded s.params.tsW r.check.now, ← elapsedAt_mod_recorded s.params.tsW r.release.now]
    at hholds hrelease hwaits henter
  have hwake : Plays _ s ((s.pulsing r).facing _ (s.tick + 1 + 1)) :=
    (Plays.read hs he hrcommand hp hstart hv).append (.accept rfl he hrcheck rfl hc)
  have hhold := hwake.append (.wakeHolds (s := s.pulsing r) he hrholds rfl hholds _ _)
  have hrel : Plays _ s ((s.released r).facing _ _) := hhold.append (.lineRelease rfl he hrrelease rfl hrelease)
  have hwait := hrel.append (.releaseWaits (s := s.released r) he hrwaits rfl hwaits _ _)
  have hloop : Plays _ s ((s.looping r).facing l _) := hwait.append (.loopEnter rfl he hrenter rfl henter)
  exact ⟨_, hsplit ▸ hloop⟩

end Sys2Proof.Machine

open Sys2Proof Sys2Proof.Machine Sys2Proof.Safety

/-- Settles O53: the steps up to the loop, and the two ways in which the loop and what follows it can end. -/
theorem attemptIsTheFunctionOfTheSpec : Obligations.AttemptIsTheFunctionOfTheSpec := by
  intro s r rest h he hw hp hstart hv hsoon hfits hs
  obtain ⟨hrst, -, -, -, -, hloop, hends, hclosing⟩ := AttemptRun.fits_iff.1 hfits
  obtain ⟨-, hrclosing⟩ := List.forall_mem_append.1 hrst
  have hscript : r.script ++ rest =
      r.opening.map .tick ++ (loopScript Config.iFirst r.halves ++ (r.closing.map .tick ++ rest)) := by
    rw [AttemptRun.script, List.append_assoc, List.append_assoc]
  obtain ⟨k, hopening⟩ := plays_opening (hs.trans hscript) he hfits hp hstart hv hsoon
  obtain ⟨t, hconclusion, hend⟩ :=
    plays_conclusion (s := (s.looping r).facing _ k) he hw hloop rfl rfl rfl h.outWf hends hclosing hrclosing
  have hplays : Plays r.script s t := by
    rw [AttemptRun.script, List.append_assoc]
    exact hopening.append hconclusion
  have hattempt : attempt s.params.tsW s.lastValid s.lastTs (r.check.now % 2 ^ s.params.tsW) (r.halves.map HalfRun.outcome) =
      (t.result, t.lastValid, t.lastTs) := by
    rw [hend.result, hend.lastValid, hend.lastTs]
    exact if_neg (by rwa [elapsedAt_mod_now])
  exact ⟨t, hplays.run, hend.phase, hend.pin, hend.gpioDir, hend.crit, hplays.script_rest hs, hattempt, hend.out⟩

end

section
/-! The edge-timing decoder one operation at a time (41_edge_timing_decoder.md R150 to R161): when a row of an ending poll is
performed, what it writes, and the whole step. -/

namespace Sys2Proof.Machine

open Sys2Proof

/-- The wait level is the level of the index's parity as a signed number (41_edge_timing_decoder.md R151). -/
theorem waitLevel_eq : ∀ i : BitVec 8, waitLevel i = if i.toInt % 2 = 0 then .low else .high := by decide

theorem State.ends_iff {s : State} : s.ends = true ↔ s.elapsed s.t0 ≤ 90 ∧ s.gpioIn ≠ waitLevel s.idx := by
  simp [State.ends, State.tooLong_eq, State.atWaitLevel]

/-- A step performs the rows of its phase and index whose condition holds (30_encoding.md R99). -/
theorem mem_selected_iff {i : Instr} {s : State} :
    i ∈ selected s ↔ (tablePhase i = some s.phase ∧ tableIdx i s.idx) ∧ condition i s = true := by
  rw [selected, List.mem_filter, State.seq, mem_rowsOf_seqOf]

/-- A row of `POLL` that wants an ending half-interval is performed where the half-interval ends, at the indices of its mask. -/
theorem mem_selected_iff_endsHere {i : Instr} {s : State} (hi : tablePhase i = some .poll) (hc : condition i s = s.ends) :
    i ∈ selected s ↔ endsHere s ∧ tableIdx i s.idx := by
  rw [mem_selected_iff, hi, hc, State.ends_iff, Option.some_inj, endsHere, eq_comm (a := Phase.poll), and_right_comm]

/-- `SHREG[14:0] ++ bit` as a number (41_edge_timing_decoder.md R156). -/
theorem shiftedIn_toNat (v : Word) (b : BitVec 1) : (v.extractLsb' 0 15 ++ b).toNat = (2 * v.toNat + b.toNat) % 2 ^ 16 := by
  have hb := b.isLt
  rw [toNat_append_eq_add, BitVec.extractLsb'_toNat, Nat.shiftRight_zero]
  omega

end Sys2Proof.Machine

open Sys2Proof Sys2Proof.Machine Sys2Proof.Safety

/-- Settles O11, by the one row of `IVL_START`. -/
theorem halfIntervalStartRecordsTheClock : Obligations.HalfIntervalStartRecordsTheClock :=
  fun _ => ⟨selected_ivlStart, rfl⟩

/-- Settles O12, by the wait level as a function of the parity. -/
theorem waitLevelFollowsParity : Obligations.WaitLevelFollowsParity := by
  intro i
  rw [waitLevel_eq]
  exact ⟨fun hodd => if_neg hodd, fun heven => if_pos heven⟩

/-- Settles O13, by the row of a poll in time at the wait level. -/
theorem pollWaitsAtTheWaitLevel : Obligations.PollWaitsAtTheWaitLevel :=
  fun _ => ⟨selected_pollWait, rfl⟩

/-- Settles O14, by the row of a late poll, which is the same at either level. -/
theorem latePollTimesOutWhateverTheLevel : Obligations.LatePollTimesOutWhateverTheLevel :=
  fun _ => ⟨selected_timeoutAbort, rfl⟩

/-- Settles O15: a width of at most 90 fits in the seven bits of `AGE`, and the comparator's bit is strict. -/
theorem intervalEndMeasuresAndClassifies : Obligations.IntervalEndMeasuresAndClassifies := by
  intro s
  refine ⟨(mem_selected_iff_endsHere rfl rfl).trans (iff_of_eq (and_true _)), mem_selected_iff_endsHere rfl rfl,
    ⟨_, rfl, rfl, fun he => ?age⟩, ⟨_, rfl, rfl, ?bit⟩⟩
  case age => exact Nat.mod_eq_of_lt (show s.elapsed s.t0 < 128 by omega)
  case bit =>
    show (bitOfAge (s.elapsed s.t0)).toNat = 1 ↔ 30 < s.elapsed s.t0
    rw [bitOfAge_toNat]
    split_ifs with h <;> simp [h]

/-- Settles O16: the rows of an ending poll by their masks, and the accumulator's shift as a number. -/
theorem accumulatorShiftsAndSnapshots : Obligations.AccumulatorShiftsAndSnapshots :=
  fun s => ⟨mem_selected_iff_endsHere rfl rfl, mem_selected_iff_endsHere rfl rfl, mem_selected_iff_endsHere rfl rfl,
    ⟨_, rfl, rfl, shiftedIn_toNat s.shreg s.wires.bit⟩, rfl, rfl⟩

/-- Settles O17: IDX_ADVANCE is the row of an ending poll whose condition names an index. -/
theorem loopAdvancesOrExits : Obligations.LoopAdvancesOrExits := by
  intro s
  refine ⟨?advances, mem_selected_iff_endsHere rfl rfl, ⟨_, rfl, rfl, toInt_add_one s.idx⟩, rfl⟩
  case advances =>
    have hlast : s.idx ≠ Config.iLast ↔ s.idx.toInt ≠ 79 := not_congr BitVec.toInt_inj.symm
    have hcond : condition .idxAdvance s = true ↔ s.ends = true ∧ s.idx.toInt ≠ 79 := by
      rw [condition, Bool.and_eq_true, decide_eq_true_iff, hlast]
    rw [mem_selected_iff, hcond, State.ends_iff]
    simp only [tablePhase, tableIdx, endsHere, Option.some_inj, eq_comm (a := Phase.poll), and_true, and_assoc]

/-- Settles O19, by the step that ends a half-interval, with the index as a signed number. -/
theorem intervalEndStepAsAWhole : Obligations.IntervalEndStepAsAWhole := by
  intro s ho hp he hl
  have h31 : s.idx.toInt = 31 ↔ s.idx = 31 := BitVec.toInt_inj (y := 31)
  have h63 : s.idx.toInt = 63 ↔ s.idx = 63 := BitVec.toInt_inj (y := 63)
  have h79 : s.idx.toInt = 79 ↔ s.idx = 79 := BitVec.toInt_inj (y := 79)
  simp only [h31, h63, h79]
  exact step_of_endsHere ho ⟨hp, he, hl⟩

end

section
/-! The decode loop from its start to either end, compared with `decode` and with the frame taken whole
(41_edge_timing_decoder.md R153, R160, R162, 30_encoding.md R94, R95). -/

namespace Sys2Proof.Machine

open Sys2Proof

/-- All 83 half-intervals end in time (41_edge_timing_decoder.md R160). -/
theorem plays_wholeLoop {s : State} {rs : List HalfRun} {rest : List Stimulus}
    (hs : s.script = loopScript Config.iFirst rs ++ rest) (he : s.params.enable = true) (hw : 22 ≤ s.params.tsW)
    (hfit : loopFits s.params.tsW Config.iFirst rs = true) (hp : s.phase = .ivlStart) (hi : s.idx = Config.iFirst)
    (hlen : rs.length = 83) (ht : ∀ r ∈ rs, r.last ≤ 90) :
    ∃ t, Plays (loopScript Config.iFirst rs) s t ∧ LoopAt s (dataBit (rs.map HalfRun.outcome)) 83 t := by
  have htake : rs.take 83 = rs := List.take_of_length_le hlen.le
  have h := plays_loop hs he hw hfit hp hi hlen.ge le_rfl (htake.symm ▸ ht)
  rwa [htake] at h

/-- After a whole loop the three registers hold the fields of the frame (30_encoding.md R95). -/
theorem LoopAt.fields {s t : State} {b : Nat → Nat} (h : LoopAt s b 83 t) :
    t.rawHum.toNat = fieldOf b 0 16 ∧ t.rawTemp.toNat = fieldOf b 16 16 ∧ t.shreg.toNat = fieldOf b 32 8 :=
  ⟨h.gathered.hum (by decide), h.gathered.temp (by decide), h.gathered.shreg⟩

/-- The frame of the registers that a loop has left is taken whole to the same registers (30_encoding.md R94; log 13). -/
theorem LoopAt.frameTaken_agrees {s t : State} {b : Nat → Nat} (h : LoopAt s b 83 t) (hbyte : t.shreg.toNat < 256) :
    ∃ u, exec (.frame (BitVec.ofNat 16 t.rawHum.toNat) (BitVec.ofNat 16 t.rawTemp.toNat) (BitVec.ofNat 8 t.shreg.toNat)) s =
        .next u ∧
      u.phase = t.phase ∧ u.crit = t.crit ∧ u.idx = t.idx ∧ u.rawHum = t.rawHum ∧ u.rawTemp = t.rawTemp ∧
      u.shreg = t.shreg ∧ u.out = t.out ∧ u.status = t.status := by
  obtain ⟨-, hout, hstatus, -⟩ := h.keeps
  have hword (v : Word) : BitVec.ofNat 16 v.toNat = v := by rw [BitVec.ofNat_toNat, BitVec.setWidth_eq]
  have hshreg : (BitVec.ofNat 8 t.shreg.toNat).setWidth 16 = t.shreg := by
    apply BitVec.eq_of_toNat_eq
    rw [BitVec.toNat_setWidth_of_le (by decide), BitVec.toNat_ofNat, Nat.mod_eq_of_lt hbyte]
  exact ⟨_, exec_frame _ _ _ s, h.phase_eq.symm, h.crit_eq.symm, h.idx.symm, hword t.rawHum, hword t.rawTemp, hshreg, hout.symm,
    hstatus.symm⟩

end Sys2Proof.Machine

open Sys2Proof Sys2Proof.Machine

/-- Settles O51, by the registers after 83 half-intervals, whose fields are those of `decode`. -/
theorem decodeLoopReadsTheFrame : Obligations.DecodeLoopReadsTheFrame := by
  intro s rs rest he hw hp hi hlen hfit ht hs
  have hfirst : s.idx = Config.iFirst := eq_iFirst_iff.2 hi
  rw [hfirst] at hfit hs ⊢
  obtain ⟨t, hplays, hat⟩ := plays_wholeLoop hs he hw hfit hp hfirst hlen ht
  obtain ⟨hhum, htemp, hsum⟩ := hat.fields
  obtain ⟨hparams, hout, hstatus, hpin, hdir, hts, hvalid⟩ := hat.keeps
  have hbyte : t.shreg.toNat < 256 := hsum.trans_lt (fieldOf_lt (dataBit_le_one _) 32 8)
  have hdecode : decodeOutcomes (rs.map HalfRun.outcome) = some ⟨t.rawHum.toNat, t.rawTemp.toNat, t.shreg.toNat⟩ := by
    rw [hhum, htemp, hsum, decodeOutcomes_inTime ht]
  have hidx : t.idx.toInt = 79 := (congrArg BitVec.toInt hat.idx).trans (loopIdx_toInt 82 (by decide))
  exact ⟨t, _, hplays.run, hdecode, hat.phase_eq, hat.crit_eq, hidx, rfl, rfl, rfl, hplays.script_rest hs, hout, hstatus, hts,
    hvalid, hpin, hdir, hparams, hat.frameTaken_agrees hbyte⟩

/-- Settles O52: the half-intervals before the late one leave the loop at its index. -/
theorem missingEdgeAbortsTheLoop : Obligations.MissingEdgeAbortsTheLoop := by
  intro s rs bad rest he hw hp hi hlen hfit ht hlate hs
  have hfirst : s.idx = Config.iFirst := eq_iFirst_iff.2 hi
  have hlast : rs.length < (rs ++ [bad]).length := by simp
  have hbad : (rs ++ [bad])[rs.length] = bad := List.getElem_concat_length rfl hlast
  rw [hfirst] at hfit hs ⊢
  obtain ⟨t, l, k, hat, hplays⟩ := plays_loop_late hs he hw hfit hp hfirst hlast hlen (by rwa [List.take_left]) (by rwa [hbad])
  rw [List.take_of_length_le (by simp)] at hplays
  obtain ⟨-, hout, -, -, -, hts, hvalid⟩ := hat.keeps
  have hidx : t.idx.toInt = -3 + rs.length := by
    rw [hat.idx_eq hlen, loopIdx_toInt _ hlen]
    omega
  exact ⟨decodeOutcomes_late (by simp) hlate, _, hplays.run, rfl, rfl, rfl, hidx, hplays.script_rest hs, hout, hts, hvalid⟩

end

section
/-! The checksum (42_checksum_assembler.md R180 to R184): the sum of the four bytes of the two fields, what one inverted bit of a frame
does to it, and the two ends of the validator. -/

namespace Sys2Proof.Machine

open Sys2Proof

/-! ### The checksum as a sum of bytes -/

/-- A number and its high byte sum to its two bytes, up to a carry out of bit 7 (42_checksum_assembler.md R184). -/
theorem checksum_mod_256 (a b : Nat) :
    (a + a / 256 + b + b / 256) % 256 = (a / 256 + a % 256 + b / 256 + b % 256) % 256 := by
  omega

/-- The 16-bit sum as a number (42_checksum_assembler.md R180). -/
theorem sum16Of_toNat (h t : Word) :
    (sum16Of h t).toNat = (h.toNat + h.toNat / 256 + t.toNat + t.toNat / 256) % 2 ^ 16 := by
  simp only [sum16Of, BitVec.toNat_add, BitVec.toNat_ushiftRight, Nat.shiftRight_eq_div_pow]
  omega

/-- What a field adds to the checksum. -/
def byteSum (v : Word) : Byte := hiByte v + loByte v

theorem byteSum_toNat (v : Word) : (byteSum v).toNat = (v.toNat / 256 + v.toNat % 256) % 256 := by
  rw [byteSum, BitVec.toNat_add, hiByte_toNat, loByte_toNat]

theorem expectedOf_eq_byteSum (h t : Word) : expectedOf h t = byteSum h + byteSum t := by
  apply BitVec.eq_of_toNat_eq
  rw [expectedOf_toNat, BitVec.toNat_add, byteSum_toNat, byteSum_toNat, checksum_mod_256, ← Nat.add_mod, ← Nat.add_assoc]

/-! ### One inverted bit -/

/-- The slice of a single bit is that bit if it lies in the slice, and zero otherwise. -/
theorem extractLsb'_twoPow {w k : Nat} (hk : k < w) (start len : Nat) :
    (BitVec.twoPow w k).extractLsb' start len =
      if start ≤ k ∧ k < start + len then BitVec.twoPow len (k - start) else 0#len := by
  ext j hj
  rw [BitVec.getElem_extractLsb', BitVec.getLsbD_twoPow, decide_eq_true hk, Bool.true_and]
  split_ifs with hin
  · rw [BitVec.getElem_twoPow, decide_eq_decide]
    omega
  · rw [BitVec.getElem_zero, decide_eq_false_iff_not]
    omega

/-- A vector with one bit inverted is another vector. -/
theorem xor_twoPow_ne {w k : Nat} (hk : k < w) (x : BitVec w) : x ^^^ BitVec.twoPow w k ≠ x := by
  intro heq
  have hzero : BitVec.twoPow w k = 0#w := (BitVec.xor_right_inj x).1 (heq.trans BitVec.xor_zero.symm)
  have hbit : (BitVec.twoPow w k)[k] = true := by rw [BitVec.getElem_twoPow, decide_eq_true rfl]
  simp [hzero] at hbit

theorem hiByte_xor (v w : Word) : hiByte (v ^^^ w) = hiByte v ^^^ hiByte w := BitVec.extractLsb'_xor

theorem loByte_xor (v w : Word) : loByte (v ^^^ w) = loByte v ^^^ loByte w := BitVec.extractLsb'_xor

/-- An inverted bit of a field changes one of its two bytes and leaves the other. -/
theorem byteSum_xor_twoPow_ne {k : Nat} (hk : k < 16) (v : Word) : byteSum (v ^^^ BitVec.twoPow 16 k) ≠ byteSum v := by
  rw [byteSum, byteSum, hiByte_xor, loByte_xor]
  rcases lt_or_ge k 8 with hlo | hhi
  · have hsame : hiByte (BitVec.twoPow 16 k) = 0#8 := (extractLsb'_twoPow hk 8 8).trans (if_neg (by omega))
    have hflip : loByte (BitVec.twoPow 16 k) = BitVec.twoPow 8 k := (extractLsb'_twoPow hk 0 8).trans (if_pos (by omega))
    rw [hsame, hflip, BitVec.xor_zero]
    exact fun heq => xor_twoPow_ne hlo _ (add_left_cancel heq)
  · have hflip : hiByte (BitVec.twoPow 16 k) = BitVec.twoPow 8 (k - 8) := (extractLsb'_twoPow hk 8 8).trans (if_pos (by omega))
    have hsame : loByte (BitVec.twoPow 16 k) = 0#8 := (extractLsb'_twoPow hk 0 8).trans (if_neg (by omega))
    rw [hsame, hflip, BitVec.xor_zero]
    exact fun heq => xor_twoPow_ne (by omega) _ (add_right_cancel heq)

/-- The fields of a frame are inverted where its bits are (30_encoding.md R94). -/
theorem frameOf_append_xor (h t : Word) (c : Byte) (w : BitVec 40) :
    frameOf ((h ++ t ++ c) ^^^ w) =
      .frame (h ^^^ w.extractLsb' 24 16) (t ^^^ w.extractLsb' 8 16) (c ^^^ w.extractLsb' 0 8) := by
  rw [← frameOf_append, ← BitVec.xor_append, ← BitVec.xor_append, append_fields]

/-- One inverted bit of a frame is one inverted bit of one of its fields. -/
theorem frameOf_xor_twoPow {k : Nat} (hk : k < 40) (h t : Word) (c : Byte) :
    frameOf ((h ++ t ++ c) ^^^ BitVec.twoPow 40 k) =
      if k < 8 then .frame h t (c ^^^ BitVec.twoPow 8 k)
      else if k < 24 then .frame h (t ^^^ BitVec.twoPow 16 (k - 8)) c
      else .frame (h ^^^ BitVec.twoPow 16 (k - 24)) t c := by
  rw [frameOf_append_xor, extractLsb'_twoPow hk, extractLsb'_twoPow hk, extractLsb'_twoPow hk]
  rcases lt_or_ge k 8 with h8 | h8
  · simp [h8, show ¬24 ≤ k by omega, show ¬8 ≤ k by omega]
  rcases lt_or_ge k 24 with h24 | h24
  · simp [h8, h24, not_lt.2 h8, not_le.2 h24]
  · simp [h24, hk, not_lt.2 h8, not_lt.2 h24]

/-! ### Rows without a condition -/

/-- A row whose mask leaves out the index and whose condition holds is performed in its phase (30_encoding.md R99). -/
theorem mem_selected_iff_phase {i : Instr} {s : State} {p : Phase} (hi : tablePhase i = some p) (hidx : tableIdx i s.idx)
    (hc : condition i s = true) : i ∈ selected s ↔ s.phase = p := by
  rw [mem_selected_iff, hi, Option.some_inj, and_iff_left hc, and_iff_left hidx, eq_comm]

end Sys2Proof.Machine

open Sys2Proof Sys2Proof.Machine Sys2Proof.Safety

/-- Settles O25, by the sum of a number and its high byte. -/
theorem checksumFormulasAgree : Obligations.ChecksumFormulasAgree :=
  fun h t => ⟨(expectedOf_toNat h t).trans (checksum_mod_256 _ _), checksum_mod_256 _ _⟩

/-- Settles O26: the inverted bit stands in the checksum, or in a field, whose two bytes then have another sum. -/
theorem oneBitErrorIsAlwaysCaught : Obligations.OneBitErrorIsAlwaysCaught := by
  intro h t c hc k hk h' t' c' hframe
  subst hc
  rw [frameOf_xor_twoPow hk] at hframe
  split_ifs at hframe with h8 h24 <;> cases hframe
  · exact (xor_twoPow_ne h8 _).symm
  · rw [expectedOf_eq_byteSum, expectedOf_eq_byteSum]
    exact fun heq => byteSum_xor_twoPow_ne (by omega) t (add_left_cancel heq)
  · rw [expectedOf_eq_byteSum, expectedOf_eq_byteSum]
    exact fun heq => byteSum_xor_twoPow_ne (by omega) h (add_right_cancel heq)

/-- Settles O22: failure entry clears `CRIT`, which the invariants have at 0 outside the loop. -/
theorem wrongChecksumDiscardsTheReading : Obligations.WrongChecksumDiscardsTheReading := by
  intro s h hp hsum
  have hc : ¬s.checksumAgrees = true := mt State.checksumAgrees_iff.1 hsum
  have hcrit : s.crit = false := h.crit_eq_false (by rw [hp]; rfl)
  refine ⟨selected_csumFail hp hc, congrArg _ (State.raiseFailure_of_crit hcrit), fun ho => ?_⟩
  have hstep := step_of_move ho (.wrongChecksum hp hc)
  rwa [← hcrit] at hstep

/-- Settles O24: the move of a right checksum, whose buffer shows the frame; the received checksum is the whole accumulator. -/
theorem rightChecksumDeliversTheFrame : Obligations.RightChecksumDeliversTheFrame := by
  intro s h ho hp hsum
  have hc : s.checksumAgrees = true := State.checksumAgrees_iff.2 hsum
  have hbyte : (loByte s.shreg).toNat = s.shreg.toNat := by
    rw [loByte_toNat, Nat.mod_eq_of_lt (h.checksumByte hp)]
  refine ⟨selected_assemble hp hc, _, step_of_move ho (.deliver hp hc), rfl, ?_⟩
  rw [← hbyte]
  exact outBytes_writeFrame_toNat h.outWf _ _ _

/-- Settles O21: two rows of `VALIDATE` without a condition, and the two cuts as numbers. -/
theorem checksumsAreComputed : Obligations.ChecksumsAreComputed :=
  fun s => ⟨mem_selected_iff_phase rfl trivial rfl, mem_selected_iff_phase rfl trivial rfl,
    ⟨_, rfl, rfl, sum16Of_toNat s.rawHum s.rawTemp, loByte_toNat _⟩, ⟨_, rfl, rfl, loByte_toNat s.shreg⟩⟩

/-- Settles O23, by the bytes of the buffer after the five writes. -/
theorem assembleWritesTheFiveBytes : Obligations.AssembleWritesTheFiveBytes := by
  intro s hwf
  obtain ⟨h0, h1, h2, h3, h4⟩ := Memory.bytes_writeFrame hwf s.rawHum s.rawTemp s.wires.received
  refine ⟨_, execAssemble_eq s, rfl, ?_, ?_, ?_, ?_, h4, fun a ha => ?_⟩
  · rw [h0, hiByte_toNat]
  · rw [h1, loByte_toNat]
  · rw [h2, hiByte_toNat]
  · rw [h3, loByte_toNat]
  · rw [Memory.read_of_nOut_le hwf ha, Memory.read_of_nOut_le (Memory.writeFrame_wf hwf _ _ _) ha]

end

section
/-! Failure entry (60_exceptions.md R207): RATE_REJECT, TIMEOUT_ABORT and CSUM_FAIL are one operation with three kinds. -/

open Sys2Proof Sys2Proof.Machine

/-- Settles O39: each of the three operations is failure entry with its own kind, and nothing besides. -/
theorem failureEntryWritesThreeElements : Obligations.FailureEntryWritesThreeElements :=
  fun s => ⟨congrArg Host.Outcome.next (s.raiseFailure_eq .rateLimited),
    congrArg Host.Outcome.next (s.raiseFailure_eq .timeout),
    congrArg Host.Outcome.next (s.raiseFailure_eq .checksumError)⟩

end

section
/-! The statements of 70_reset_and_hazards.md: what a reset leaves to the caller (R241, R242), how old a half-interval can get (R250),
and that every transaction ends (R256). -/

namespace Sys2Proof.Machine

open Sys2Proof Sys2Proof.Safety

/-! ### Elapsed times from one reading of the clock to the next -/

/-- The time elapsed at a later reading is that elapsed at an earlier one and what has passed between them (00_scope.md R10). -/
theorem elapsedAt_trans (tsW t now later : Nat) :
    elapsedAt tsW t later = (elapsedAt tsW t now + elapsedAt tsW now later) % 2 ^ tsW := by
  unfold elapsedAt
  have hnow := Nat.div_add_mod now (2 ^ tsW)
  have hlt := Nat.mod_lt now (Nat.two_pow_pos tsW)
  rw [← Nat.add_mod, show now + (2 ^ tsW - t % 2 ^ tsW) + (later + (2 ^ tsW - now % 2 ^ tsW)) =
      later + (2 ^ tsW - t % 2 ^ tsW) + 2 ^ tsW * (now / 2 ^ tsW) + 2 ^ tsW by omega,
    Nat.add_mod_right, Nat.add_mul_mod_self_left]

/-- Within one wrap an elapsed time grows with the clock. -/
theorem elapsedAt_add {tsW t now d : Nat} (h : elapsedAt tsW t now + d < 2 ^ tsW) :
    elapsedAt tsW t (now + d) = elapsedAt tsW t now + d := by
  rw [← Nat.mod_eq_of_lt h, elapsedAt, elapsedAt, Nat.mod_add_mod, Nat.add_right_comm]

/-- A clock that does not go backwards, exceeds every bound and between two readings stays 2000 or more short of a wrap shows at some
reading that 2000 microseconds have gone by since a recorded time: as long as it does not, no reading has wrapped past it. -/
theorem exists_two_thousand_le_elapsedAt {tsW t : Nat} {now : Nat → Nat} (hmono : ∀ k, now k ≤ now (k + 1))
    (hgap : ∀ k, now (k + 1) + 2000 ≤ now k + 2 ^ tsW) (hunbounded : ∀ bound, ∃ k, bound ≤ now k) :
    ∃ k, 2000 ≤ elapsedAt tsW t (now k) := by
  by_contra hnone
  have hbelow : ∀ k, elapsedAt tsW t (now k) < 2000 := by simpa using hnone
  have hgrows : ∀ k, elapsedAt tsW t (now k) + now 0 = elapsedAt tsW t (now 0) + now k := by
    intro k
    induction k with
    | zero => rfl
    | succ k ih =>
      have hm := hmono k
      have hg := hgap k
      have hb := hbelow k
      have hstep := elapsedAt_add (tsW := tsW) (t := t) (now := now k) (d := now (k + 1) - now k) (by omega)
      rw [Nat.add_sub_cancel' hm] at hstep
      omega
  obtain ⟨k, hk⟩ := hunbounded (now 0 + 2000)
  have hg := hgrows k
  have hb := hbelow k
  omega

/-! ### What a move does to the count of the steps left -/

theorem waitLimit_le (p : Phase) : waitLimit p ≤ 2000 := by cases p <;> decide

theorem exists_move_of_busy {s : State} (hb : s.phase ≠ .idle) : ∃ u, Move s u :=
  exists_move (fun hidle => hb hidle.1)

theorem Move.params_eq {s u : State} (hm : Move s u) : u.params = s.params := by
  cases hm <;> rfl

/-- A move of a busy block brings the transaction nearer to its end, or is a wait before the limit of its phase. -/
theorem Move.stepsLeft_lt_or_wait {s u : State} (h : Inv s) (hm : Move s u) (hb : s.phase ≠ .idle) :
    stepsLeft u < stepsLeft s ∨ (u = s ∧ s.elapsed s.t0 < waitLimit s.phase) := by
  cases hm with
  | idleWait hp | read hp => exact absurd hp hb
  | wakeHold hp he => exact .inr ⟨rfl, by rw [hp]; exact he⟩
  | releaseWait hp he => exact .inr ⟨rfl, by rw [hp]; exact he⟩
  | pollWait hp he hl => exact .inr ⟨rfl, by rw [hp]; exact Nat.lt_succ_of_le he⟩
  | reject hp | accept hp | lineRelease hp | ivlStart hp | timeout hp | wrongChecksum hp | deliver hp | complete hp =>
    left
    simp only [stepsLeft, hp]
    omega
  | loopEnter hp =>
    left
    simp only [stepsLeft, hp]
    decide
  | advance he hi =>
    left
    obtain ⟨hp, -⟩ := he
    have hlt := h.idx_lt_last (by rw [hp]; rfl) hi
    have hsucc := toInt_add_one s.idx (by omega)
    simp only [stepsLeft, hp, hsucc]
    omega
  | exit he hi =>
    left
    obtain ⟨hp, -⟩ := he
    simp only [stepsLeft, hp]
    omega

/-- The one move that stays in `POLL`. -/
theorem Move.wait_of_poll {s u : State} (hm : Move s u) (hp : s.phase = .poll) (hu : u.phase = .poll) :
    u = s ∧ s.elapsed s.t0 ≤ 90 := by
  cases hm with
  | pollWait _ he _ => exact ⟨rfl, he⟩
  | idleWait hp' | wakeHold hp' | releaseWait hp' | ivlStart hp' => cases hp.symm.trans hp'
  | _ => cases hu

/-- Only the move of `DONE` leads to `IDLE`. -/
theorem Move.stays_busy {s u : State} (hm : Move s u) (hb : s.phase ≠ .idle) (hd : s.phase ≠ .done) : u.phase ≠ .idle := by
  cases hm with
  | complete hp => exact absurd hp hd
  | idleWait | wakeHold | releaseWait | pollWait => exact hb
  | _ => nofun

/-- How many steps a transaction still takes at the most where every step comes 2000 microseconds or more after `T0`: no step waits,
and a poll is a timeout. -/
def lateStepsLeft : Phase → Nat
  | .idle => 0
  | .done => 1
  | .validate => 2
  | .poll => 2
  | .ivlStart => 3
  | .release => 4
  | .wake => 5
  | .ratecheck => 6

theorem lateStepsLeft_le (p : Phase) : lateStepsLeft p ≤ 6 := by cases p <;> decide

theorem lateStepsLeft_eq_zero {p : Phase} (h : lateStepsLeft p = 0) : p = .idle := by
  cases p with
  | idle => rfl
  | _ => cases h

theorem Move.lateStepsLeft_lt {s u : State} (hm : Move s u) (hb : s.phase ≠ .idle) (hlate : 2000 ≤ s.elapsed s.t0) :
    lateStepsLeft u.phase < lateStepsLeft s.phase := by
  cases hm with
  | idleWait hp | read hp => exact absurd hp hb
  | wakeHold _ he | releaseWait _ he | pollWait _ he => omega
  | advance he | exit he =>
    obtain ⟨-, hinTime, -⟩ := he
    omega
  | reject hp | accept hp | lineRelease hp | loopEnter hp | ivlStart hp | timeout hp | wrongChecksum hp | deliver hp
  | complete hp =>
    simp only [lateStepsLeft, hp]
    omega

/-- `T0` is written with the clock of the step or not at all. -/
theorem Move.t0_eq {s u : State} (hm : Move s u) : u.t0 = s.t0 ∨ u.t0 = s.now := by
  cases hm with
  | accept | lineRelease | ivlStart => exact .inr rfl
  | _ => exact .inl rfl

/-! ### Timely whose script is as long as they turn out to be -/

section
variable {s u : State} {i : Inputs} {r : List Stimulus}

/-- A move reads the head of the script only (log 1). -/
theorem Move.of_given (hm : Move (s.given i []) u) : Move (s.given i r) { u with script := .tick i :: r } := by
  cases hm with
  | idleWait hp hs => exact .idleWait hp hs
  | read hp hs hv => exact .read hp hs hv
  | reject hp hc => exact .reject hp hc
  | accept hp hc => exact .accept hp hc
  | wakeHold hp he => exact .wakeHold hp he
  | lineRelease hp he => exact .lineRelease hp he
  | releaseWait hp he => exact .releaseWait hp he
  | loopEnter hp he => exact .loopEnter hp he
  | ivlStart hp => exact .ivlStart hp
  | timeout hp he => exact .timeout hp he
  | pollWait hp he hl => exact .pollWait hp he hl
  | advance he hi => exact .advance he hi
  | exit he hi => exact .exit he hi
  | wrongChecksum hp hc => exact .wrongChecksum hp hc
  | deliver hp hc => exact .deliver hp hc
  | complete hp => exact .complete hp

/-- The step on the inputs `i` is the same whatever comes after them. -/
theorem step_given_of_move (he : s.params.enable = true) (hr : i.rst = false) (hm : Move (s.given i []) u) :
    step (s.given i r) = .next { u.advance with script := r } :=
  step_of_move (s := s.given i r) (State.ordinary_of_script rfl he hr) hm.of_given

end

/-- The inputs of the first `n` steps as a script. -/
def ticks (inp : Nat → Inputs) (n : Nat) : List Stimulus := (List.range n).map (fun j => .tick (inp j))

theorem ticks_succ (inp : Nat → Inputs) (n : Nat) :
    ticks inp (n + 1) = .tick (inp 0) :: ticks (fun j => inp (j + 1)) n := by
  simp [ticks, List.range_succ_eq_map, Function.comp_def]

/-- On the inputs `inp` the block comes from `s` to `DONE`, and one step later to `IDLE`. -/
def Ends (s : State) (inp : Nat → Inputs) : Prop :=
  ∃ k u t, Host.Core.run core k { s with script := ticks inp (k + 1) } = .next u ∧
    u.phase = .done ∧ step u = .next t ∧ t.phase = .idle

section
variable {s u : State} {inp : Nat → Inputs} (he : s.params.enable = true)
include he

theorem Ends.of_done (hr : (inp 0).rst = false) (hd : s.phase = .done) : Ends s inp :=
  ⟨0, s.given (inp 0) [], _, rfl, hd, step_given_of_move he hr (.complete hd), rfl⟩

/-- One step in front of a run that ends. -/
theorem Ends.of_move (hr : (inp 0).rst = false) (hm : Move (s.given (inp 0) []) u)
    (h : Ends u.advance (fun j => inp (j + 1))) : Ends s inp := by
  obtain ⟨k, v, t, hrun, hd, hstep, ht⟩ := h
  refine ⟨1 + k, v, t, ?_, hd, hstep, ht⟩
  rw [ticks_succ]
  refine (run_add (run_one (step_given_of_move he hr hm))).trans ?_
  rw [Nat.add_comm 1 k]
  exact hrun

end

theorem inv_given {s : State} (h : Inv s) (i : Inputs) (r : List Stimulus) : Inv (s.given i r) := { h with }

/-- Inputs on which every transaction ends: no reset, and a clock as 00_scope.md R10 asks for, which exceeds every bound. -/
structure Timely (tsW : Nat) (inp : Nat → Inputs) : Prop where
  noReset : ∀ k, (inp k).rst = false
  forward : ∀ k, (inp k).now ≤ (inp (k + 1)).now
  withinWrap : ∀ k, (inp (k + 1)).now + 2000 ≤ (inp k).now + 2 ^ tsW
  unbounded : ∀ bound, ∃ k, bound ≤ (inp k).now

theorem Timely.tail {tsW : Nat} {inp : Nat → Inputs} (h : Timely tsW inp) : Timely tsW (fun j => inp (j + 1)) where
  noReset k := h.noReset (k + 1)
  forward k := h.forward (k + 1)
  withinWrap k := h.withinWrap (k + 1)
  unbounded bound := by
    obtain ⟨k, hk⟩ := h.unbounded bound
    exact ⟨k, hk.trans (h.forward k)⟩

theorem Timely.exists_late {tsW : Nat} {inp : Nat → Inputs} (h : Timely tsW inp) (t : Nat) :
    ∃ k, 2000 ≤ elapsedAt tsW t (inp k).now :=
  exists_two_thousand_le_elapsedAt h.forward h.withinWrap h.unbounded

/-- A busy block has a move, whatever the inputs: it comes nearer to the end, or waits less than 2000 microseconds after `T0`. -/
theorem exists_move_given {s : State} (h : Inv s) (hb : s.phase ≠ .idle) (i : Inputs) :
    ∃ u, Move (s.given i []) u ∧
      (stepsLeft u < stepsLeft s ∨ (u = s.given i [] ∧ elapsedAt s.params.tsW s.t0 i.now < 2000)) := by
  obtain ⟨u, hm⟩ := exists_move_of_busy (s := s.given i []) hb
  refine ⟨u, hm, (hm.stepsLeft_lt_or_wait (inv_given h i []) hb).imp_right (And.imp_right fun hwait => ?_)⟩
  exact (State.elapsed_of_script (s := s.given i []) rfl s.t0).symm.trans_lt (hwait.trans_le (waitLimit_le _))

/-- From every busy state the block comes to `DONE`: each step lowers the count of the steps left, or is a wait, which brings nearer
the step number `late`, by which 2000 microseconds have gone by since `T0`. -/
theorem ends_of_timely {s : State} {inp : Nat → Inputs} (h : Inv s) (he : s.params.enable = true) (hb : s.phase ≠ .idle)
    (htimely : Timely s.params.tsW inp) (late : Nat) (hlate : 2000 ≤ elapsedAt s.params.tsW s.t0 (inp late).now) : Ends s inp := by
  have hr := htimely.noReset 0
  by_cases hd : s.phase = .done
  · exact .of_done he hr hd
  obtain ⟨u, hm, hnear | ⟨rfl, hwait⟩⟩ := exists_move_given h hb (inp 0)
  · have hparams : u.params = s.params := hm.params_eq
    have htail : Timely u.params.tsW (fun j => inp (j + 1)) := hparams ▸ htimely.tail
    obtain ⟨later, hlater⟩ := htail.exists_late u.t0
    exact .of_move he hr hm (ends_of_timely (s := u.advance) ((inv_given h _ _).move hm).advance (hparams ▸ he) (hm.stays_busy hb hd)
      htail later hlater)
  · obtain ⟨sooner, hsooner⟩ : ∃ k, late = k + 1 :=
      Nat.exists_eq_succ_of_ne_zero (fun hzero => absurd hwait (not_lt.2 (hzero ▸ hlate)))
    exact .of_move he hr hm (ends_of_timely (s := (s.given (inp 0) []).advance) (inv_given h _ _).advance he hb htimely.tail sooner
      (hsooner ▸ hlate))
termination_by (stepsLeft s, late)
decreasing_by
  · exact Prod.Lex.left _ _ hnear
  · exact Prod.Lex.right _ (hsooner ▸ Nat.lt_succ_self sooner)

/-! ### Runs of steps 2000 microseconds apart -/

/-- A clock that has not wrapped and shows 2000 microseconds more than `T0`. -/
theorem State.late_of_script {s : State} {i : Inputs} {r : List Stimulus} (hs : s.script = .tick i :: r)
    (hwidth : i.now < 2 ^ s.params.tsW) (hlate : s.t0 + 2000 ≤ i.now) : 2000 ≤ s.elapsed s.t0 := by
  have hnow : s.now = (s.t0 + (i.now - s.t0)) % 2 ^ s.params.tsW := by
    rw [Nat.add_sub_cancel' (by omega), State.now_of_script hs]
  have hage := State.elapsed_add hnow (by omega)
  rw [Nat.mod_eq_of_lt (by omega)] at hage
  omega

/-- Where every step comes 2000 microseconds or more after the one before, as many steps as are left at the most lead to `IDLE`. -/
theorem reaches_idle_of_spaced {m : Nat} {s : State} {n : Nat → Nat} {l : Nat → Level} (he : s.params.enable = true)
    (hm : lateStepsLeft s.phase ≤ m) (hwidth : ∀ k, k < m → n k < 2 ^ s.params.tsW) (hfirst : 0 < m → s.t0 + 2000 ≤ n 0)
    (hspaced : ∀ k, k + 1 < m → n k + 2000 ≤ n (k + 1)) (hs : s.script = (List.range m).map (fun k => quiet (n k) (l k))) :
    ∃ k t, k ≤ m ∧ Host.Core.run core k s = .next t ∧ t.phase = .idle := by
  induction m generalizing s n l with
  | zero => exact ⟨0, s, le_refl 0, rfl, lateStepsLeft_eq_zero (Nat.le_zero.1 hm)⟩
  | succ m ih =>
    by_cases hb : s.phase = .idle
    · exact ⟨0, s, Nat.zero_le _, rfl, hb⟩
    rw [List.range_succ_eq_map, List.map_cons, List.map_map] at hs
    have hw := hwidth 0 (Nat.succ_pos m)
    have hf := hfirst (Nat.succ_pos m)
    have hnow : s.now = n 0 := (State.now_of_script hs).trans (Nat.mod_eq_of_lt hw)
    obtain ⟨u, hu⟩ := exists_move_of_busy hb
    have hstep := step_of_move (State.ordinary_of_script hs he rfl) hu
    have hnear := hu.lateStepsLeft_lt hb (State.late_of_script hs hw hf)
    have hparams : u.params = s.params := hu.params_eq
    have hscript : u.script.tail = (List.range m).map (fun k => quiet (n (k + 1)) (l (k + 1))) := by
      rw [hu.keeps_script.1, hs]
      rfl
    have hnext : 0 < m → u.t0 + 2000 ≤ n 1 := by
      intro hpos
      have h01 := hspaced 0 (by omega)
      have ht0 := hu.t0_eq
      rw [Nat.zero_add] at h01
      omega
    obtain ⟨k, t, hk, hrun, ht⟩ := ih (s := u.advance) (hparams ▸ he) (Nat.le_of_lt_succ (hnear.trans_le hm))
      (fun k hk => hparams ▸ hwidth (k + 1) (by omega)) hnext (fun k hk => hspaced (k + 1) (by omega)) hscript
    exact ⟨1 + k, t, by omega, (run_add (run_one hstep)).trans hrun, ht⟩

end Sys2Proof.Machine

open Sys2Proof Sys2Proof.Machine Sys2Proof.Safety

/-- Settles O2: the step is a reset, and the rate check rejects nothing while `LAST_VALID` is 0. -/
theorem resetEndsATransactionUnreported : Obligations.ResetEndsATransactionUnreported := by
  intro s t ht hr hstep
  obtain ⟨he, -⟩ := step_cases hstep
  rw [step_of_rst he ht hr] at hstep
  cases hstep
  refine ⟨rfl, rfl, rfl, rfl, fun u hlast hp => selected_stamp hp ?_⟩
  rintro ⟨hvalid, -⟩
  exact absurd (hlast.symm.trans hvalid) Bool.false_ne_true

/-- Settles O48: the poll that stays in `POLL` is at most 90 microseconds after `T0`, and the next one at most `g` after it. -/
theorem halfIntervalLastsNinetyAndOneGap : Obligations.HalfIntervalLastsNinetyAndOneGap := by
  intro s t g h ho hp hstep ht hgap _
  obtain ⟨u, hm, rfl⟩ := move_of_step ho hstep
  obtain ⟨rfl, hage⟩ := hm.wait_of_poll hp ht
  have hcrit : u.crit = true := by rw [h.critInLoop, hp]; rfl
  have hg : u.advance.elapsed u.now ≤ g := by simpa [gapKept, hcrit] using hgap
  calc u.advance.elapsed u.t0 = (u.elapsed u.t0 + u.advance.elapsed u.now) % 2 ^ u.params.tsW := elapsedAt_trans _ _ _ _
    _ ≤ u.elapsed u.t0 + u.advance.elapsed u.now := Nat.mod_le _ _
    _ ≤ 90 + g := Nat.add_le_add hage hg

/-- Settles O49: the count of each move, and on a running clock the waits between two moves come to an end. -/
theorem everyTransactionEndsIfTimePasses : Obligations.EveryTransactionEndsIfTimePasses := by
  refine ⟨fun s h ho hb => ?step, fun s inp h he _ hb hr hforward hwrap hunbounded => ?run⟩
  case step =>
    obtain ⟨u, hm⟩ := exists_move_of_busy hb
    exact ⟨u.advance, step_of_move ho hm,
      (hm.stepsLeft_lt_or_wait h hb).imp_right (And.imp_left (congrArg State.advance))⟩
  case run =>
    have htimely : Timely s.params.tsW inp := ⟨hr, hforward, hwrap, hunbounded⟩
    obtain ⟨late, hlate⟩ := htimely.exists_late s.t0
    exact ends_of_timely h he hb htimely late hlate

/-- Settles O50: 2000 microseconds after `T0` no move waits, and at most six moves are left. -/
theorem sevenSpacedStepsEndATransaction : Obligations.SevenSpacedStepsEndATransaction := by
  refine ⟨fun s _ ho hb hlate => ?step, fun s n l _ he _ _ hwidth hfirst hspaced hs => ?run⟩
  case step =>
    obtain ⟨u, hm⟩ := exists_move_of_busy hb
    have hnear := hm.lateStepsLeft_lt hb hlate
    exact ⟨u.advance, step_of_move ho hm, fun hsame => hnear.ne (congrArg lateStepsLeft hsame)⟩
  case run =>
    exact reaches_idle_of_spaced he ((lateStepsLeft_le _).trans (by decide)) hwidth (fun _ => hfirst)
      (fun k hk => hspaced k (by omega)) hs

end
